-- ==== Sys2Proof/Word.lean ====
section
/-! DEFINITION. The words of the GN460: bytes, issues, kit codes, and the capacities the manual fixes. -/

namespace Sys2Proof

/-- A byte on one of the lines or in the record store (chapter 11). -/
abbrev Byte := BitVec 8

/-- An issue or a move issue: a number of 16 bits that wraps (R22, R56). -/
abbrev Issue := BitVec 16

/-- A kit code: the secret a record and its kit share (R18). -/
abbrev KitCode := BitVec 32

/-- The last district hour the clock can count to (R1). -/
abbrev maxHour : Nat := 16777215

/-- The last absolute cycle number, read by every block once the end-of-count flag is set (R4). -/
abbrev maxCycle : Nat := 1006632959

/-- The number of kit records; kit numbers are `0 .. 4095` (R17). -/
abbrev rosterSize : Nat := 4096

/-- The number of slots in a cycle (R1). -/
abbrev slotCount : Nat := 120

/-- The most indices the dirty queue holds (R145). -/
abbrev queueCapacity : Nat := 32

/-- The most notices the notice queue holds (R168). -/
abbrev noticeCapacity : Nat := 32

/-- The most frames the receive FIFO holds (R111). -/
abbrev fifoCapacity : Nat := 2

/-- The most rolls that are open at once (R103). -/
abbrev rollCapacity : Nat := 2

/-- The most replies the reply list holds, the one being sent among them (R162). -/
abbrev replyCapacity : Nat := 8

/-- The most held hours a record carries (R19, R48). -/
abbrev maxHeldHours : Nat := 17520

end Sys2Proof
end

