-- ==== Sys2Proof/Syntax.lean ====
section
/-! DEFINITION. The commands of the part: one constructor for every row of spec/opcode_table.json. A host command
carries the tag and the payload bytes of its frame, exactly as they came over the station link (R157, R176), so
that a wrong length, a repeat and an out-of-range field are all the command's own business. -/

namespace Sys2Proof

/-- How the serial memory answered a read the part made in LOADING (R144, R153, R154). -/
inductive PortRead where
  /-- The memory was in error for the read. -/
  | inError
  /-- The bytes came back as the store holds them. -/
  | asStored
  /-- The port delivered these bytes, whatever the store holds (a memory that fails at that place). -/
  | bytes (bs : List Byte)
deriving DecidableEq, Repr

/-- How one attempt of a write ended at the serial memory (R148). -/
inductive AttemptEnd where
  /-- The memory took the image and read it back. -/
  | good
  /-- The memory reported the write finished and read back these bytes, which it now holds at the place. -/
  | readBack (bs : List Byte)
  /-- The memory was in error; `left` is what the place holds afterwards. -/
  | inError (left : List Byte)
deriving DecidableEq, Repr

/-- Why a link frame was rejected (R158, R159). -/
inductive RejectReason where
  | check
  | length
  | byteError
  | gap
deriving DecidableEq, Repr

/-- The part's commands and events, one for every row of the table, in the table's order. -/
inductive Instr where
  /-- POWER_UP (R8). `speed` is the level of the SPEED pin, sampled here (R156). -/
  | powerUp (speed : Bool)
  /-- RESET_PIN_ASSERTED (R8). `tear` says, byte by byte, whether a write cut off left the new contents (R149). -/
  | resetPinAsserted (tear : BitVec 64)
  /-- RESET_PIN_DEASSERTED (R8). `speed` is the level of the SPEED pin, sampled here (R156). -/
  | resetPinDeasserted (speed : Bool)
  /-- REFERENCE_CLOCK_STOPS (R2). -/
  | referenceClockStops
  /-- REFERENCE_CLOCK_RETURNS (R2). -/
  | referenceClockReturns
  /-- SLOT_START (R97). -/
  | slotStart
  /-- DOWNLINK_WINDOW_END (R9). -/
  | downlinkWindowEnd
  /-- REPLY_SUB_WINDOW_START (R110); `k` is the number `1 .. 6` of the sub-window that starts. -/
  | replySubWindowStart (k : Nat)
  /-- REPLY_WINDOW_END (R3). -/
  | replyWindowEnd
  /-- HOUR_TICK (R4). -/
  | hourTick
  /-- PREPARATION_COMPLETE (R92). -/
  | preparationComplete
  /-- BURST_COMPLETE (R100). -/
  | burstComplete
  /-- UPLINK_FRAME_COMPLETE (R111); `b` is the eleventh byte after the sync pattern. -/
  | uplinkFrameComplete (b : Byte)
  /-- UPLINK_BYTE_ERROR (R109). -/
  | uplinkByteError
  /-- RECEIPT_HANDLE (R115). -/
  | receiptHandle
  /-- MOVE_COMPLETION (R137). -/
  | moveCompletion
  /-- WITHDRAWAL_ON_TAMPER (R53). -/
  | withdrawalOnTamper
  /-- GRACE_EXAMINE (R62). -/
  | graceExamine
  /-- GRACE_RECKONING (R63). -/
  | graceReckoning
  /-- COMMAND_RECKONING (R41). -/
  | commandReckoning
  /-- STORE_ATTEMPT_COMPLETE (R148). -/
  | storeAttemptComplete (e : AttemptEnd)
  /-- STORE_MEMORY_TIMEOUT (R144); `left` is what the place holds when the transaction was a write. -/
  | storeMemoryTimeout (left : List Byte)
  /-- SETTINGS_BLOCK_READ (R153). -/
  | settingsBlockRead (r : PortRead)
  /-- KIT_RECORD_READ (R154). -/
  | kitRecordRead (r : PortRead)
  /-- CLOSING_DRAIN_COMPLETE (R12). `speed` is the level of the SPEED pin, sampled here (R156). -/
  | closingDrainComplete (speed : Bool)
  /-- REPLY_SENT (R162). `speed` is the level of the SPEED pin, sampled when the part enters LOADING (R156). -/
  | replySent (speed : Bool)
  /-- NOTE_PULSE_END (R171). -/
  | notePulseEnd
  /-- LINK_FRAME_REJECT (R159). -/
  | linkFrameReject (r : RejectReason)
  /-- LINK_GAP_EXPIRY (R158). -/
  | linkGapExpiry
  /-- UNKNOWN_KIND_FRAME (R160). -/
  | unknownKindFrame (kind tag : Byte)
  /-- IDENTIFY (R164). -/
  | identify (tag : Byte) (payload : List Byte)
  /-- STATUS (R165). -/
  | status (tag : Byte) (payload : List Byte)
  /-- CONFIGURE (R166). -/
  | configure (tag : Byte) (payload : List Byte)
  /-- LOAD PATTERN (R167). -/
  | loadPattern (tag : Byte) (payload : List Byte)
  /-- SAVE SETTINGS (R152). -/
  | saveSettings (tag : Byte) (payload : List Byte)
  /-- SET CLOCK (R6). -/
  | setClock (tag : Byte) (payload : List Byte)
  /-- START (R9). -/
  | start (tag : Byte) (payload : List Byte)
  /-- STOP (R10). -/
  | stop (tag : Byte) (payload : List Byte)
  /-- RESET (R11). -/
  | reset (tag : Byte) (payload : List Byte)
  /-- ENROL (R27). -/
  | enrol (tag : Byte) (payload : List Byte)
  /-- ENROL BLOCK (R29). -/
  | enrolBlock (tag : Byte) (payload : List Byte)
  /-- RETIRE (R31). -/
  | retire (tag : Byte) (payload : List Byte)
  /-- RESTORE (R33). -/
  | restore (tag : Byte) (payload : List Byte)
  /-- READ KIT (R34). -/
  | readKit (tag : Byte) (payload : List Byte)
  /-- GRANT (R42 to R45). -/
  | grant (tag : Byte) (payload : List Byte)
  /-- SET HORIZON (R46). -/
  | setHorizon (tag : Byte) (payload : List Byte)
  /-- WITHDRAW (R48). -/
  | withdraw (tag : Byte) (payload : List Byte)
  /-- RESUME (R50). -/
  | resume (tag : Byte) (payload : List Byte)
  /-- MOVE (R131, R132). -/
  | move (tag : Byte) (payload : List Byte)
  /-- GRACE (R60). -/
  | grace (tag : Byte) (payload : List Byte)
  /-- GRACE ABORT (R67). -/
  | graceAbort (tag : Byte) (payload : List Byte)
  /-- FETCH NOTICES (R169). -/
  | fetchNotices (tag : Byte) (payload : List Byte)
  /-- COUNTERS (R173). -/
  | counters (tag : Byte) (payload : List Byte)
  /-- POWER_LOSS (R149). `tear` says, byte by byte, whether a write cut off left the new contents. -/
  | powerLoss (tear : BitVec 64)
  /-- UPLINK_BYTE_ARRIVAL (R108). -/
  | uplinkByteArrival (b : Byte)
  /-- LINK_BYTE_ARRIVAL (R158). -/
  | linkByteArrival (b : Byte)
deriving DecidableEq, Repr

end Sys2Proof
end

