-- ==== Sys2Proof/Decode.lean ====
section
/-! DEFINITION. Words of spec/opcode_table.json as commands. The table gives no row any bits: its rows are commands and
events of a block, which no word spells. -/

namespace Sys2Proof

/-- The command a word spells by the table's bits: none, for no row gives bits (assumption 11). -/
def decodeTableWord (_nbits _w : Nat) : Option Instr := none

end Sys2Proof
end

