-- ==== Sys2Proof/Config.lean ====
section
/-! DEFINITION. What the manual leaves to the part: constants with no body, about which nothing can be proved
beyond their types. -/

namespace Sys2Proof.Config

/-- The design level IDENTIFY reports is `1 + designLevelIndex`. R164 gives its range `1 .. 255` and no value.
DESIGN CHOICE (assumption 1): the value is free, and safe. -/
opaque designLevelIndex : Fin 255

/-- Bits 5 to 3 of the status byte that READ KIT, TAMPER and USAGE report, as a function of the status byte the
kit sent. R181 calls these bits unused and no rule says what the part writes in their place.
DESIGN CHOICE (assumption 2): the value is free, and safe. -/
opaque statusSpareBits : Byte → BitVec 3

/-- The two bytes of STATUS for the next index of a walk while no walk runs. R61, R165 and R177 report "no walk" by the
grace number 0 and give these bytes no value. DESIGN CHOICE (assumption 40): the value is free, and safe. -/
opaque idleWalkIndex : BitVec 16

end Sys2Proof.Config
end

