-- ==== Sys2Proof/Machine/State.lean ====
section
/-! DEFINITION. The state of the part, block by block as the manual divides it (spec/00_scope.md), the reasons a
step can stop, and the machine right after reset. Everything here is plain data. -/

namespace Sys2Proof.Machine

/-! ### Modes and small named sets -/

/-- The five operating states (R8 to R14). -/
inductive OpState where
  | loading
  | standby
  | onAir
  | closing
  | faulted
deriving DecidableEq, Repr

/-- The four classes of a pending kit (R76). `repeated` is the manual's REPEAT. -/
inductive Class where
  | urgent
  | ordinary
  | repeated
  | slow
deriving DecidableEq, Repr

/-- One step of the service pattern: a class and a veto flag (R78). -/
structure PatternStep where
  cls  : Class
  veto : Bool
deriving DecidableEq, Repr

/-- The twenty-three commands of the station link (R176). -/
inductive CmdKind where
  | identify | status | configure | loadPattern | saveSettings | setClock | start | stop | reset
  | enrol | enrolBlock | retire | restore | readKit
  | grant | setHorizon | withdraw | resume | move
  | grace | graceAbort | fetchNotices | counters
deriving DecidableEq, Repr

/-- The reply statuses (R162, R177). -/
inductive Status where
  | ok | capped | busy | state | notReady | noClock | range | noKit | kitState | oneWay | walkBusy | noWalk
  | faulted | unknown | badLength
deriving DecidableEq, Repr

/-! ### The supply and the input pins -/

/-- What the part is given from outside and what it keeps of it. -/
structure Pins where
  /-- The supply is present (R8, R149). -/
  power      : Bool
  /-- The reset pin is asserted (R8). -/
  resetPin   : Bool
  /-- The reference clock has stopped (R2). -/
  refStopped : Bool
  /-- The line rate in use, sampled from SPEED at the entry to LOADING: true is 115,200 bit/s (R156). -/
  fastLine   : Bool
deriving DecidableEq, Repr

/-! ### The district clock (chapter 1) -/

/-- The point the slot timer has reached, as the last of its events that was taken (R2). -/
inductive SlotTimer where
  /-- The clock is unset and the timer stands still (R1). -/
  | stopped
  /-- A reply window end or a SET CLOCK was taken and the slot start of the slot the clock names was not. -/
  | boundary
  /-- A slot start was taken before the reply window end of the slot before it, at the same instant (R2). -/
  | early
  /-- In the downlink window. -/
  | downlink
  /-- In the reply sub-window with this number. -/
  | reply (k : Nat)
deriving DecidableEq, Repr

/-- The district clock (R1). -/
structure Clock where
  isSet      : Bool
  dh         : Nat
  cycle      : Nat
  slot       : Nat
  endOfCount : Bool
  timer      : SlotTimer
  /-- The cycle number wraps from 59 at this slot start and the hour tick that carries the clock over is still to
  be taken (R3, R4; the model's own, assumption 8). -/
  tickDue    : Bool
deriving DecidableEq, Repr

/-! ### The kit roster (chapter 2) -/

/-- The last status of a kit: what its last accepted receipt reported (R21), with the three unused bits of the
status byte as the part reports them (assumption 2). -/
structure KitStatus where
  lamp    : Bool
  lid     : Bool
  battery : BitVec 3
  spare   : BitVec 3
deriving DecidableEq, Repr

/-- An enrolled kit's record (R18). `heldHours` is present in HELD and in no other state (R19), so its presence is
the kit's state: `none` is ACTIVE, `some _` is HELD. -/
structure KitRec where
  code           : KitCode
  answers        : Bool
  listen         : Nat
  ordered        : Nat
  moveIssue      : Option Issue
  horizon        : Nat
  heldHours      : Option Nat
  issue          : Issue
  mark           : Nat
  confirmed      : Option Issue
  settled        : Bool
  sends          : Nat
  unlock         : Bool
  notify         : Bool
  moveSent       : Bool
  lastSent       : Option Nat
  lastHeard      : Option Nat
  missed         : Nat
  silentReported : Bool
  tamper         : Nat
  lastStatus     : Option KitStatus
deriving DecidableEq, Repr

/-- A record of the roster: FREE, DAMAGED, or an enrolled kit (R17). -/
inductive Kit where
  | free
  | damaged
  | enrolled (r : KitRec)
deriving DecidableEq, Repr

/-! ### The grace walker (chapter 4) -/

/-- A walk in flight (R61). The record in hand, when there is one, is the one at the next index. -/
structure Walk where
  number  : Nat
  hours   : Nat
  scope   : Nat
  next    : Nat
  changed : Nat
  inHand  : Bool
  abort   : Bool
deriving DecidableEq, Repr

/-! ### Settings (R38, R75, R93, R114, R166) -/

/-- The district settings in force, without the service pattern. -/
structure Settings where
  district      : Nat
  /-- The advance limit A. -/
  advance       : Nat
  /-- The repeat budget R. -/
  budget        : Nat
  /-- The slow interval S. -/
  slowInterval  : Nat
  /-- The packing P. -/
  packing       : Nat
  /-- The refresh interval F. -/
  refresh       : Nat
  /-- The audit interval V. -/
  auditInterval : Nat
  /-- The missed-reply mark M. -/
  missedMark    : Nat
  /-- The tamper mark T. -/
  tamperMark    : Nat
  /-- The reply-hold mark H. -/
  holdMark      : Nat
  uplink        : Bool
  saveBad       : Bool
  foreignPass   : Bool
  usageNotices  : Bool
  autoHold      : Bool
  notePulse     : Bool
deriving DecidableEq, Repr

/-! ### The delivery scheduler (chapter 5) -/

/-- The delivery scheduler (R72, R78, R82, R83). The three tables list only the slots whose entry differs from the
empty list, or from zero. -/
structure Scheduler where
  lists       : List (Nat × List Nat)
  pattern     : List PatternStep
  pointer     : Nat
  auditPtrs   : List (Nat × Nat)
  idle        : List (Nat × Nat)
  /-- The slot for which the last preparation was begun, while its slot start is still to come (R9). -/
  preparedFor : Option Nat
deriving DecidableEq, Repr

/-! ### The burst builder (chapter 6) -/

/-- One entry of a burst in a buffer: the order as the selection act handed it, its origin and the kit's code
(R79, R91). -/
structure Entry where
  kit     : Nat
  issue   : Issue
  horizon : Nat
  slot    : Nat
  held    : Bool
  audit   : Bool
  code    : KitCode
deriving DecidableEq, Repr

/-- What a burst buffer that is not EMPTY holds (R91). -/
structure Burst where
  slot        : Nat
  cycle       : Nat
  dh          : Nat
  targetCycle : Nat
  hold        : Bool
  district    : Nat
  entries     : List Entry
  /-- The burst as it will go on air, encoded when the preparation completes (R92). -/
  encoded     : List Byte
deriving DecidableEq, Repr

/-- The outcome of an entry's count (R86 to R88, R102). -/
inductive CountOutcome where
  | pendingSend
  | other
  | stale
deriving DecidableEq, Repr

/-- One position of a roll (R102). -/
structure Position where
  kit      : Nat
  issue    : Issue
  outcome  : CountOutcome
  /-- The kit's sends as the count left them; 0 for a kit that is not enrolled then (assumption 41). -/
  sends    : Nat
  answered : Bool
deriving DecidableEq, Repr

/-- An open roll (R102). `id` tells rolls apart for the tags of frames (R111). -/
structure Roll where
  id          : Nat
  slot        : Nat
  cycle       : Nat
  hold        : Bool
  /-- The reply window of the roll's slot has ended (R126). -/
  windowEnded : Bool
  positions   : List Position
deriving DecidableEq, Repr

/-- The burst builder (R91, R102). The two buffers are held by what they are at: at most one is PREPARING or READY
and at most one is ON AIR (R91), and a buffer that is neither is EMPTY (assumption 5). -/
structure Builder where
  /-- The buffer that is PREPARING. -/
  preparing : Option Burst
  /-- The buffer that is READY. -/
  ready     : Option Burst
  /-- The buffer that is ON AIR. -/
  onAir     : Option Burst
  /-- The open rolls, oldest first. -/
  rolls     : List Roll
  /-- The number the next roll takes (the model's own, assumption 6). -/
  nextRoll  : Nat
  /-- The roll opened at the last slot start, if one was. -/
  slotRoll  : Option Nat
deriving DecidableEq, Repr

/-! ### The uplink framer (chapter 7) -/

/-- The sub-window states of the framer (R108). -/
inductive SubState where
  | searching
  | syncSeen
  | taking (bs : List Byte)
  | done
deriving DecidableEq, Repr

/-- The window mode (R107). -/
inductive WindowMode where
  | listening (st : SubState)
  | dropping
deriving DecidableEq, Repr

/-- The reply window the framer is searching (R107, R111). -/
structure Window where
  slot  : Nat
  cycle : Nat
  roll  : Option Nat
  sub   : Nat
  mode  : WindowMode
deriving DecidableEq, Repr

/-- A frame of the receive FIFO with its tag (R111). -/
structure Frame where
  bytes    : List Byte
  slot     : Nat
  cycle    : Nat
  position : Nat
  roll     : Option Nat
deriving DecidableEq, Repr

/-- The uplink framer. -/
structure Framer where
  /-- The slot and absolute cycle of a slot whose reply window is to be searched, from its slot start until its
  first sub-window (R107). -/
  armed  : Option (Nat × Nat)
  window : Option Window
  fifo   : List Frame
deriving DecidableEq, Repr

/-! ### The receipt handler (chapter 7) -/

/-- A request of the receipt handler that waits to be reckoned (R124). -/
inductive HandlerReq where
  | completeMove (kit : Nat)
  | tamperHold (kit : Nat)
deriving DecidableEq, Repr

/-- The receipt handler between acts (R115). HANDLING lasts for one act and is never seen between two. The frame in
hand of a STALLED handler is the head of the receive FIFO. -/
inductive Handler where
  | idle
  | stalled (first : HandlerReq) (second : Option HandlerReq)
deriving DecidableEq, Repr

/-! ### The store controller (chapter 9) -/

/-- The three requesters that wait for the dirty queue, in the order of the circle (R146). -/
inductive Requester where
  | link
  | walker
  | handler
deriving DecidableEq, Repr

/-- What a write is of (R151). -/
inductive StoreTarget where
  | kit (k : Nat)
  | settings
deriving DecidableEq, Repr

/-- The states of the store controller (R147), with the write image and the attempt in progress (R148). READING is
told apart by what is read next. -/
inductive StoreMode where
  | readingSettings
  | readingKit (k : Nat)
  | idle
  | writing (k : Nat) (image : List Byte) (attempt : Nat)
  | saving (image : List Byte) (attempt : Nat)
  /-- STOPPED, with the write that failed (R151). -/
  | stopped (t : StoreTarget)
deriving DecidableEq, Repr

/-- The store controller and the record store it drives (R144 to R147). -/
structure Store where
  /-- The external memory: the bytes that differ from `0xFF`, by rising address. -/
  cells    : List Host.Cell
  queue    : List Nat
  rotation : Requester
  /-- A settings write is owed (R152). -/
  owed     : Bool
  mode     : StoreMode
deriving DecidableEq, Repr

/-! ### The station link (chapter 10) -/

/-- The frame receiver (R158): the length byte, the bytes of the body so far, and the first check byte. -/
inductive Receiver where
  | waiting
  | length
  | body (n : Nat) (got : List Byte)
  | check (n : Nat) (got : List Byte) (high : Option Byte)
deriving DecidableEq, Repr

/-- A reply frame (R157, R162). `entersLoading` marks the reply of a RESET taken in FAULTED (R11). -/
structure Reply where
  kind          : Byte
  tag           : Byte
  payload       : List Byte
  entersLoading : Bool
deriving DecidableEq, Repr

/-- The copy of the last reply with the command it answered (R161). -/
structure Copy where
  kind    : CmdKind
  tag     : Byte
  payload : List Byte
  reply   : Reply
deriving DecidableEq, Repr

/-- A command in hand whose reply waits (R28, R41, R150, R152, R160). -/
structure Hand where
  kind     : CmdKind
  tag      : Byte
  payload  : List Byte
  /-- No request of the command is still to be reckoned. -/
  reckoned : Bool
  /-- The records an ENROL BLOCK has enrolled so far (R30). -/
  enrolled : Nat
  /-- The reply's status and figures, fixed at reckoning (R58). -/
  status   : Status
  content  : List Byte
  /-- The kits whose verified write the reply waits for; true once the write that completes it has started (R150). -/
  awaits   : List (Nat × Bool)
  /-- The reply waits for the settings write (R152). -/
  settings : Bool
deriving DecidableEq, Repr

/-- The notice kinds with the data each carries (R170, R182). -/
inductive NoticeKind where
  | delivered (issue : Issue) (confirmed : Bool)
  | unreached (issue : Issue) (sends missed : Nat)
  | silent (missed : Nat) (lastHeard : Option Nat)
  | tamper (run : Nat) (st : KitStatus)
  | autoHeld (held lost : Nat) (issue : Issue)
  | usage (wattHours : Nat) (st : KitStatus)
  | anomaly (heldIssue current : Issue)
  | badReply (slot position : Nat) (heldIssue : Issue)
  | foreign (district slot position : Nat)
  | moved (old new : Nat) (moveIssue : Issue)
  | graceDone (number changed next : Nat) (aborted : Bool)
  | damaged
  | settingsLost (reason : Nat)
  | storeFault (settings : Bool) (memoryError : Bool)
deriving DecidableEq, Repr

/-- A notice: its kind and data, the hour and cycle of its posting, and the kit it concerns (R168). -/
structure Notice where
  kind  : NoticeKind
  dh    : Nat
  cycle : Nat
  kit   : Option Nat
deriving DecidableEq, Repr

/-- The sixteen counters, in the order of the table of R172. -/
structure Counters where
  bursts       : Nat
  headerBursts : Nat
  missedSlots  : Nat
  entries      : Nat
  staleEntries : Nat
  audits       : Nat
  confirmed    : Nat
  behind       : Nat
  ahead        : Nat
  badCheck     : Nat
  short        : Nat
  foreign      : Nat
  stray        : Nat
  overruns     : Nat
  storeRetries : Nat
  linkRejects  : Nat
deriving DecidableEq, Repr

/-- The names of the sixteen counters (R172). -/
inductive Counter where
  | bursts | headerBursts | missedSlots | entries | staleEntries | audits | confirmed | behind | ahead | badCheck
  | short | foreign | stray | overruns | storeRetries | linkRejects
deriving DecidableEq, Repr

/-- The counters as they stand at power-up (R172). -/
def Counters.zero : Counters where
  bursts := 0
  headerBursts := 0
  missedSlots := 0
  entries := 0
  staleEntries := 0
  audits := 0
  confirmed := 0
  behind := 0
  ahead := 0
  badCheck := 0
  short := 0
  foreign := 0
  stray := 0
  overruns := 0
  storeRetries := 0
  linkRejects := 0

/-- The station link (chapter 10). -/
structure Link where
  op       : OpState
  receiver : Receiver
  hand     : Option Hand
  /-- The reply list, oldest first; the head is being sent. -/
  replies  : List Reply
  copy     : Option Copy
  notices  : List Notice
  lost     : Nat
  /-- The NOTE pulse is running (R171). -/
  pulse    : Bool
  counters : Counters
deriving DecidableEq, Repr

/-! ### The whole part -/

/-- The state of the part. `pending` is the queue of commands that are waiting, first in, first out. -/
structure State where
  pins      : Pins
  clock     : Clock
  /-- The records that are not FREE, by rising kit number. -/
  roster    : List (Nat × Kit)
  walk      : Option Walk
  settings  : Settings
  scheduler : Scheduler
  builder   : Builder
  framer    : Framer
  handler   : Handler
  store     : Store
  link      : Link
  pending   : List Instr
deriving DecidableEq, Repr

/-- A machine stop. The manual stops the part at nothing: every command and event has an effect or finds nothing to
do, so no command raises a fault and the type has no constructor. -/
inductive Fault where
deriving DecidableEq, Repr

/-- Why a command has no meaning. -/
inductive Refusal where
  /-- Raised by `exec`'s arm of a command that has no meaning in this model yet. Safe: the model stops there. No arm
  raises it now. -/
  | notModelled (mnemonic : String)
deriving DecidableEq, Repr

/-! ### Reset -/

/-- The clock at power-up and at every entry to LOADING (R1). -/
def Clock.unset : Clock where
  isSet := false
  dh := 0
  cycle := 0
  slot := 0
  endOfCount := false
  timer := .stopped
  tickDue := false

/-- The default settings (R153). -/
def Settings.default : Settings where
  district := 0
  advance := 8760
  budget := 4
  slowInterval := 15
  packing := 6
  refresh := 5
  auditInterval := 1440
  missedMark := 3
  tamperMark := 2
  holdMark := 24
  uplink := true
  saveBad := false
  foreignPass := false
  usageNotices := false
  autoHold := false
  notePulse := false

/-- The default service pattern, no step vetoed (R78). -/
def defaultPattern : List PatternStep :=
  [Class.urgent, .ordinary, .urgent, .repeated, .urgent, .ordinary, .repeated, .urgent,
   .urgent, .ordinary, .repeated, .urgent, .ordinary, .slow, .urgent, .repeated].map (PatternStep.mk · false)

/-- The machine right after reset: power applied, the reset pin deasserted, in LOADING, about to read the settings
block, with an erased record store (R1, R8, R35, R61, R74, R91, R107, R145, R158, R163, R172; assumptions 3 and 4). -/
def State.reset : State where
  pins :=
    { power := true
      resetPin := false
      refStopped := false
      fastLine := false }
  clock := .unset
  roster := []
  walk := none
  settings := .default
  scheduler :=
    { lists := []
      pattern := defaultPattern
      pointer := 0
      auditPtrs := []
      idle := []
      preparedFor := none }
  builder :=
    { preparing := none
      ready := none
      onAir := none
      rolls := []
      nextRoll := 0
      slotRoll := none }
  framer :=
    { armed := none
      window := none
      fifo := [] }
  handler := .idle
  store :=
    { cells := []
      queue := []
      rotation := .link
      owed := false
      mode := .readingSettings }
  link :=
    { op := .loading
      receiver := .waiting
      hand := none
      replies := []
      copy := none
      notices := []
      lost := 0
      pulse := false
      counters := .zero }
  pending := []

/-! ### Named updates: each changes one block -/

/-- Update the pins. -/
def State.onPins (f : Pins → Pins) (s : State) : State := { s with pins := f s.pins }
/-- Update the district clock. -/
def State.onClock (f : Clock → Clock) (s : State) : State := { s with clock := f s.clock }
/-- Update the roster's table. -/
def State.onRoster (f : List (Nat × Kit) → List (Nat × Kit)) (s : State) : State := { s with roster := f s.roster }
/-- Replace the walk. -/
def State.setWalk (w : Option Walk) (s : State) : State := { s with walk := w }
/-- Replace the settings in force. -/
def State.setSettings (g : Settings) (s : State) : State := { s with settings := g }
/-- Update the delivery scheduler. -/
def State.onScheduler (f : Scheduler → Scheduler) (s : State) : State := { s with scheduler := f s.scheduler }
/-- Update the burst builder. -/
def State.onBuilder (f : Builder → Builder) (s : State) : State := { s with builder := f s.builder }
/-- Update the uplink framer. -/
def State.onFramer (f : Framer → Framer) (s : State) : State := { s with framer := f s.framer }
/-- Replace the receipt handler's state. -/
def State.setHandler (h : Handler) (s : State) : State := { s with handler := h }
/-- Update the store controller. -/
def State.onStore (f : Store → Store) (s : State) : State := { s with store := f s.store }
/-- Update the station link. -/
def State.onLink (f : Link → Link) (s : State) : State := { s with link := f s.link }

end Sys2Proof.Machine
end

