-- ==== Sys2Proof/Machine/Table.lean ====
section
/-! DEFINITION. Sparse tables by number and the record store's memory (R144). A table lists, by rising number, the
entries that differ from its default, so that equal tables are equal lists. -/

namespace Sys2Proof.Machine

/-- The entry at `k`, or the default `d` where the table lists none. -/
def lookupAt {α : Type} (d : α) : List (Nat × α) → Nat → α
  | [], _ => d
  | e :: t, k => if e.1 = k then e.2 else lookupAt d t k

/-- Put an entry in its place by number. -/
def insertAt {α : Type} (k : Nat) (v : α) : List (Nat × α) → List (Nat × α)
  | [] => [(k, v)]
  | e :: t => if k < e.1 then (k, v) :: e :: t else e :: insertAt k v t

/-- Take out whatever the table lists at `k`. -/
def eraseAt {α : Type} (k : Nat) (m : List (Nat × α)) : List (Nat × α) :=
  m.filter fun e => e.1 != k

/-- Set the entry at `k`. An entry equal to the default is not listed. -/
def setAt {α : Type} [DecidableEq α] (d : α) (k : Nat) (v : α) (m : List (Nat × α)) : List (Nat × α) :=
  if v = d then eraseAt k m else insertAt k v (eraseAt k m)

/-- The canonical form: numbers strictly rising, no entry equal to the default. -/
def canonical {α : Type} [DecidableEq α] (d : α) : List (Nat × α) → Bool
  | [] => true
  | [e] => e.2 != d
  | e :: e' :: t => e.2 != d && e.1 < e'.1 && canonical d (e' :: t)

/-- What a byte of the record store that nothing has written reads as: the erased state (R144; assumption 3). -/
def erasedByte : Byte := 0xFF

/-- Read one byte of the record store. -/
def readByte (m : List Host.Cell) (a : Nat) : Byte := lookupAt erasedByte m a

/-- Write one byte of the record store. -/
def writeByte (a : Nat) (b : Byte) (m : List Host.Cell) : List Host.Cell := setAt erasedByte a b m

/-- The memory keeps its canonical form. -/
def memoryWf (m : List Host.Cell) : Bool := canonical erasedByte m

/-- Read `n` bytes from offset `a` (R144: a read of a run of bytes). -/
def readRun (m : List Host.Cell) (a : Nat) : Nat → List Byte
  | 0 => []
  | n + 1 => readByte m a :: readRun m (a + 1) n

/-- Write a run of bytes from offset `a` (R144). -/
def writeRun (a : Nat) : List Byte → List Host.Cell → List Host.Cell
  | [], m => m
  | b :: bs, m => writeRun (a + 1) bs (writeByte a b m)

end Sys2Proof.Machine
end

