-- ==== Sys2Proof/Machine/Operands.lean ====
section
/-! DEFINITION. The formats of chapter 11: numbers as bytes, the check, the kinds and statuses, the arguments of the
commands, and the layouts of records, settings, bursts, receipts, notices and replies. -/

namespace Sys2Proof.Machine

/-! ### Numbers and bits as bytes (chapter 11: most significant byte first) -/

/-- One byte of a number. -/
def be1 (n : Nat) : List Byte := [BitVec.ofNat 8 n]
/-- A number in two bytes. -/
def be2 (n : Nat) : List Byte := [BitVec.ofNat 8 (n / 256), BitVec.ofNat 8 n]
/-- A number in three bytes. -/
def be3 (n : Nat) : List Byte := [BitVec.ofNat 8 (n / 65536), BitVec.ofNat 8 (n / 256), BitVec.ofNat 8 n]
/-- A number in four bytes. -/
def be4 (n : Nat) : List Byte :=
  [BitVec.ofNat 8 (n / 16777216), BitVec.ofNat 8 (n / 65536), BitVec.ofNat 8 (n / 256), BitVec.ofNat 8 n]

/-- The number a run of bytes holds. -/
def beNat (bs : List Byte) : Nat := bs.foldl (fun n b => n * 256 + b.toNat) 0

/-- The field of `width` bytes at offset `off` of a message. -/
def field (p : List Byte) (off width : Nat) : Nat := beNat ((p.drop off).take width)

/-- A one-byte flag: clear when 0 and set when any other value (R177). -/
def flagAt (p : List Byte) (off : Nat) : Bool := field p off 1 != 0

/-- Bit `i` of a number. -/
def bitAt (n i : Nat) : Bool := n / 2 ^ i % 2 == 1

/-- The number whose bits are given from bit 0 up. -/
def ofBits : List Bool → Nat
  | [] => 0
  | b :: bs => b.toNat + 2 * ofBits bs

/-- A run of exactly `n` bytes: cut off, or filled up with the erased byte. -/
def fitTo (n : Nat) (bs : List Byte) : List Byte := (bs ++ List.replicate n erasedByte).take n

/-! ### The check (R175) -/

/-- One bit into the check. -/
def crcBit (r : BitVec 16) (b : Bool) : BitVec 16 :=
  if r.msb != b then (r <<< 1) ^^^ 0x1021 else r <<< 1

/-- One byte into the check, bit 7 first. -/
def crcByte (r : BitVec 16) (b : Byte) : BitVec 16 :=
  [7, 6, 5, 4, 3, 2, 1, 0].foldl (fun r i => crcBit r (b.getLsbD i)) r

/-- The CRC-16 over a sequence of bytes. -/
def crc16 (bs : List Byte) : BitVec 16 := bs.foldl crcByte 0xFFFF

/-- The check as it is placed: high byte first. -/
def crcBytes (bs : List Byte) : List Byte := be2 (crc16 bs).toNat

/-! ### The lines (R99, R109, R156) -/

/-- The stop-bit level, at which an idle line rests. -/
def restLevel : Bool := true

/-- A byte on a line: a start bit, eight data bits least significant first, a stop bit. -/
def lineBits (b : Byte) : List Bool := false :: (List.range 8).map b.getLsbD ++ [restLevel]

/-- The level of a line at a bit time, counted from the start of the bytes being sent: their bits one byte after another with
no gap, and the rest level once they are sent or where there are none. -/
def lineLevel (bs : List Byte) (i : Nat) : Bool := (bs.map lineBits).flatten.getD i restLevel

/-! ### Codes (R176, R177) -/

/-- The kind byte of a command. -/
def CmdKind.code : CmdKind → Byte
  | .identify => 0x01
  | .status => 0x02
  | .configure => 0x03
  | .loadPattern => 0x04
  | .saveSettings => 0x05
  | .setClock => 0x06
  | .start => 0x07
  | .stop => 0x08
  | .reset => 0x09
  | .enrol => 0x10
  | .enrolBlock => 0x11
  | .retire => 0x12
  | .restore => 0x13
  | .readKit => 0x14
  | .grant => 0x20
  | .setHorizon => 0x21
  | .withdraw => 0x22
  | .resume => 0x23
  | .move => 0x24
  | .grace => 0x28
  | .graceAbort => 0x29
  | .fetchNotices => 0x30
  | .counters => 0x31

/-- Every command kind, in the order of the codes. -/
def CmdKind.all : List CmdKind :=
  [.identify, .status, .configure, .loadPattern, .saveSettings, .setClock, .start, .stop, .reset, .enrol, .enrolBlock,
   .retire, .restore, .readKit, .grant, .setHorizon, .withdraw, .resume, .move, .grace, .graceAbort, .fetchNotices,
   .counters]

/-- The command a kind byte names, if it names one (R160, test 3). -/
def CmdKind.ofCode (b : Byte) : Option CmdKind := CmdKind.all.find? fun k => k.code == b

/-- The kind of the reply to a frame: the frame's kind with the top bit set (R162). -/
def replyKind (kind : Byte) : Byte := kind ||| 0x80

/-- The kind of a reject reply (R176). -/
def rejectKind : Byte := 0xFF

/-- The status byte of a reply (R177). -/
def Status.code : Status → Byte
  | .ok => 0x00
  | .capped => 0x01
  | .busy => 0x02
  | .state => 0x03
  | .notReady => 0x04
  | .noClock => 0x05
  | .range => 0x06
  | .noKit => 0x07
  | .kitState => 0x08
  | .oneWay => 0x09
  | .walkBusy => 0x0A
  | .noWalk => 0x0B
  | .faulted => 0x0C
  | .unknown => 0x0D
  | .badLength => 0x0E

/-- The operating state as a reply codes it (R177). -/
def OpState.code : OpState → Nat
  | .loading => 0
  | .standby => 1
  | .onAir => 2
  | .closing => 3
  | .faulted => 4

/-- The kit state as a reply codes it: 0 FREE, 1 ACTIVE, 2 HELD, 3 DAMAGED (R177). -/
def Kit.stateCode : Kit → Nat
  | .free => 0
  | .damaged => 3
  | .enrolled r => if r.heldHours.isSome then 2 else 1

/-- The reason byte of a reject reply (R177). -/
def rejectCode : RejectReason → Nat
  | .check => 1
  | .length => 2
  | .byteError => 3
  | .gap => 4

/-! ### Payload lengths (R160, test 4; R176) -/

/-- The payload length a kind requires. An ENROL BLOCK's depends on the count its payload carries: with fewer than
three bytes it is 14, and a count outside `1 .. 20` passes the test whatever the length. -/
def requiredLength (k : CmdKind) (p : List Byte) : Nat :=
  match k with
  | .configure => 14
  | .loadPattern => 16
  | .setClock => 4
  | .enrol | .restore => 13
  | .enrolBlock =>
    if p.length < 3 then 14
    else if 1 ≤ field p 2 1 ∧ field p 2 1 ≤ 20 then 3 + 11 * field p 2 1
    else p.length
  | .retire | .readKit => 2
  | .grant | .grace => 5
  | .setHorizon => 6
  | .withdraw | .resume => 3
  | .move => 4
  | .counters => 1
  | .identify | .status | .saveSettings | .start | .stop | .reset | .graceAbort | .fetchNotices => 0

/-! ### The service pattern and the options (R176, R177) -/

/-- The class a step byte names in bits 2 to 0, if bits 6 to 3 are 0 and it names one. -/
def classOfCode (n : Nat) : Option Class :=
  match n % 128 with
  | 1 => some .urgent
  | 2 => some .ordinary
  | 3 => some .repeated
  | 4 => some .slow
  | _ => none

/-- A step byte: the class in bits 2 to 0, the veto flag in bit 7. -/
def stepOfByte (b : Byte) : Option PatternStep := (classOfCode b.toNat).map (PatternStep.mk · (bitAt b.toNat 7))

/-- The code of a class in a step byte. -/
def Class.code : Class → Nat
  | .urgent => 1
  | .ordinary => 2
  | .repeated => 3
  | .slow => 4

/-- The byte of a pattern step. -/
def PatternStep.byte (st : PatternStep) : Byte := BitVec.ofNat 8 (st.cls.code + 128 * st.veto.toNat)

/-- The number of the lowest step byte that names no class (R167). -/
def firstBadStep (p : List Byte) : Option Nat := p.findIdx? fun b => (stepOfByte b).isNone

/-- The options byte of the settings: bit 0 uplink fitted, 1 save bad replies, 2 foreign pass, 3 usage notices,
4 auto-hold on tamper, 5 NOTE pulse mode (R176). -/
def Settings.options (g : Settings) : Nat :=
  ofBits [g.uplink, g.saveBad, g.foreignPass, g.usageNotices, g.autoHold, g.notePulse]

/-- The settings that fourteen bytes in the CONFIGURE form hold (R176); the settings block opens with the same
fourteen bytes (chapter 11.5). -/
def settingsOfBytes (p : List Byte) : Settings where
  district := field p 0 2
  advance := field p 2 2
  budget := field p 4 1
  slowInterval := field p 5 1
  packing := field p 6 1
  refresh := field p 7 1
  auditInterval := field p 8 2
  missedMark := field p 10 1
  tamperMark := field p 11 1
  holdMark := field p 12 1
  uplink := bitAt (field p 13 1) 0
  saveBad := bitAt (field p 13 1) 1
  foreignPass := bitAt (field p 13 1) 2
  usageNotices := bitAt (field p 13 1) 3
  autoHold := bitAt (field p 13 1) 4
  notePulse := bitAt (field p 13 1) 5

/-- The settings in the CONFIGURE form. -/
def Settings.bytes (g : Settings) : List Byte :=
  be2 g.district ++ be2 g.advance ++ be1 g.budget ++ be1 g.slowInterval ++ be1 g.packing ++ be1 g.refresh ++
    be2 g.auditInterval ++ be1 g.missedMark ++ be1 g.tamperMark ++ be1 g.holdMark ++ be1 g.options

/-- Whether each of the fields 2 to 11 of R166 lies in its range, in order; the settings block has the same ranges
(R153). -/
def fieldsInRange (g : Settings) (options : Nat) : List Bool :=
  [24 ≤ g.advance && g.advance ≤ 17520, 1 ≤ g.budget && g.budget ≤ 15, 1 ≤ g.slowInterval && g.slowInterval ≤ 255,
   1 ≤ g.packing && g.packing ≤ 6, g.refresh ≤ 255, g.auditInterval ≤ 65535, 1 ≤ g.missedMark && g.missedMark ≤ 15,
   g.tamperMark ≤ 15, 8 ≤ g.holdMark && g.holdMark ≤ 32, options < 64]

/-- The number of the lowest CONFIGURE field that is out of its range (R166). -/
def firstBadField (p : List Byte) : Option Nat :=
  (((1 ≤ field p 0 2 && field p 0 2 ≤ 65535) :: fieldsInRange (settingsOfBytes p) (field p 13 1)).findIdx? (!·)).map
    (· + 1)

/-! ### The status byte of a receipt (R179, R181) -/

/-- Lamp from bit 7, lid from bit 6, battery from bits 2 to 0; bits 5 to 3 as the part reports them (assumption 2). -/
def KitStatus.ofByte (b : Byte) : KitStatus where
  lamp := b.getLsbD 7
  lid := b.getLsbD 6
  battery := b.extractLsb' 0 3
  spare := Config.statusSpareBits b

/-- The status-byte form of a last status. -/
def KitStatus.byte (t : KitStatus) : Byte :=
  BitVec.ofNat 8 (128 * t.lamp.toNat + 64 * t.lid.toNat + 8 * t.spare.toNat + t.battery.toNat)

/-! ### Kit records in the store (R144, R183) -/

/-- The offset of a kit's record. -/
def recordOffset (k : Nat) : Nat := 64 + 19 * k

/-- Bytes 0 to 16 of an enrolled kit's stored record. -/
def KitRec.body (r : KitRec) : List Byte :=
  be1 ((if r.heldHours.isSome then 2 else 1) + 16 * r.answers.toNat + 32 * r.moveIssue.isSome.toNat
    + 64 * r.heldHours.isSome.toNat) ++
  be4 r.code.toNat ++ be1 r.listen ++ be1 r.ordered ++ be2 ((r.moveIssue.map BitVec.toNat).getD 0) ++
  be3 r.horizon ++ be2 (r.heldHours.getD 0) ++ be2 r.issue.toNat ++ be1 r.mark

/-- The nineteen bytes of the stored form of record `k` (R147, R183): zeros for a FREE record. A DAMAGED record is
never written (R37). -/
def recordImage (k : Nat) : Kit → List Byte
  | .free => List.replicate 19 0
  | .damaged => List.replicate 19 0
  | .enrolled r => r.body ++ crcBytes (be2 k ++ r.body)

/-- The record an enrolled kit has after a load: the persisted fields as stored, the volatile ones by R36. -/
def loadedRec (b : List Byte) : KitRec where
  code := BitVec.ofNat 32 (field b 1 4)
  answers := bitAt (field b 0 1) 4
  listen := field b 5 1
  ordered := field b 6 1
  moveIssue := if bitAt (field b 0 1) 5 then some (BitVec.ofNat 16 (field b 7 2)) else none
  horizon := field b 9 3
  heldHours := if bitAt (field b 0 1) 6 then some (field b 12 2) else none
  issue := BitVec.ofNat 16 (field b 14 2)
  mark := field b 16 1
  confirmed := none
  settled := false
  sends := 0
  unlock := false
  notify := false
  moveSent := bitAt (field b 0 1) 5
  lastSent := none
  lastHeard := none
  missed := 0
  silentReported := false
  tamper := 0
  lastStatus := none

/-- The contents of a stored record whose check passes are a valid enrolled kit (R35, R183). -/
def storedValid (b : List Byte) : Bool :=
  let r := loadedRec b
  let st := field b 0 1 % 4
  (st == 1 || st == 2) && r.listen ≤ 119 && r.ordered ≤ 119 && r.heldHours.getD 0 ≤ maxHeldHours &&
    (st == 2) == r.heldHours.isSome && r.moveIssue.isSome == (r.listen != r.ordered)

/-- What the roster makes of the nineteen bytes read for record `k` (R35, R183). -/
def loadedKit (k : Nat) (b : List Byte) : Kit :=
  if b.all (· == 0x00) || b.all (· == 0xFF) then .free
  else if crcBytes (be2 k ++ b.take 17) != b.drop 17 then .damaged
  else if storedValid b then .enrolled (loadedRec b) else .damaged

/-! ### The settings block (R152, R153, R184) -/

/-- The settings block formed from the settings and the pattern in force. -/
def settingsBody (g : Settings) (pat : List PatternStep) : List Byte :=
  g.bytes ++ pat.map PatternStep.byte ++ List.replicate 32 0

/-- The image of a settings write. -/
def settingsImage (g : Settings) (pat : List PatternStep) : List Byte :=
  settingsBody g pat ++ crcBytes (settingsBody g pat)

/-- The reason a settings block that was read is rejected: 1 for a failed check, 3 for a value out of range, in that
order (R182, R184). -/
def blockFault (b : List Byte) : Option Nat :=
  if crcBytes (b.take 62) != b.drop 62 then some 1
  else if (fieldsInRange (settingsOfBytes b) (field b 13 1)).all id && (firstBadStep ((b.drop 14).take 16)).isNone then none
  else some 3

/-- The service pattern the step bytes hold. -/
def patternOfBytes (bs : List Byte) : List PatternStep := bs.filterMap stepOfByte

/-! ### Bursts (R94 to R96, R179, R180) -/

/-- The header: sync, district, hour, cycle, slot, entry count with the reply-hold flag, check. -/
def Burst.header (b : Burst) : List Byte :=
  let h := be2 b.district ++ be3 b.dh ++ be1 b.cycle ++ be1 b.slot ++ be1 (b.entries.length % 8 + 128 * b.hold.toNat)
  [0x5A, 0xC6] ++ h ++ crcBytes h

/-- Bytes 0 to 8 of an entry. -/
def Entry.body (e : Entry) : List Byte :=
  be2 e.kit ++ be2 e.issue.toNat ++ be3 e.horizon ++ be1 e.slot ++ be1 e.held.toNat

/-- An entry with its check, computed over the kit's code, the district code and the entry's fields (R95). -/
def Entry.bytes (district : Nat) (e : Entry) : List Byte :=
  e.body ++ crcBytes (be4 e.code.toNat ++ be2 district ++ e.body)

/-- The whole burst as it goes on air. -/
def Burst.bytes (b : Burst) : List Byte := b.header ++ (b.entries.map (Entry.bytes b.district)).flatten

/-! ### Receipts (R179, R181) -/

/-- The district code a frame names. -/
def receiptDistrict (f : List Byte) : Nat := field f 0 2
/-- The kit number a frame names. -/
def receiptKit (f : List Byte) : Nat := field f 2 2
/-- The issue a frame reports as held. -/
def receiptIssue (f : List Byte) : Issue := BitVec.ofNat 16 (field f 4 2)
/-- The status a frame reports. -/
def receiptStatus (f : List Byte) : KitStatus := KitStatus.ofByte (BitVec.ofNat 8 (field f 6 1))
/-- The usage figure a frame reports. -/
def receiptUsage (f : List Byte) : Nat := field f 7 2
/-- The receipt check agrees: computed over the kit code and the frame's bytes 0 to 8 (R117). -/
def receiptGood (code : KitCode) (f : List Byte) : Bool :=
  crcBytes (be4 code.toNat ++ f.take 9) == f.drop 9

/-! ### Notices (R182) -/

/-- The kind byte and the five data bytes of a notice. -/
def NoticeKind.parts : NoticeKind → Nat × List Byte
  | .delivered i conf => (1, be2 i.toNat ++ be1 (!conf).toNat ++ be2 0)
  | .unreached i sends missed => (2, be2 i.toNat ++ be1 sends ++ be1 missed ++ be1 0)
  | .silent missed heard => (3, be1 missed ++ be4 (heard.getD 0xFFFFFFFF))
  | .tamper run st => (4, be1 run ++ [st.byte] ++ be3 0)
  | .autoHeld held lost i => (5, be2 held ++ be1 (min lost 255) ++ be2 i.toNat)
  | .usage wh st => (6, be2 wh ++ [st.byte] ++ be2 0)
  | .anomaly h c => (7, be2 h.toNat ++ be2 c.toNat ++ be1 0)
  | .badReply slot pos h => (8, be1 slot ++ be1 pos ++ be2 h.toNat ++ be1 0)
  | .foreign d slot pos => (9, be2 d ++ be1 slot ++ be1 pos ++ be1 0)
  | .moved old new mi => (10, be1 old ++ be1 new ++ be2 mi.toNat ++ be1 0)
  | .graceDone n changed next ab => (11, be1 n ++ be2 changed ++ be2 (next + 32768 * ab.toNat))
  | .damaged => (12, be1 0 ++ be4 0)
  | .settingsLost reason => (13, be1 reason ++ be4 0)
  | .storeFault st err => (14, be1 st.toNat ++ be1 (if err then 2 else 1) ++ be3 0)

/-- The twelve bytes of a notice. -/
def Notice.bytes (n : Notice) : List Byte :=
  be1 n.kind.parts.1 ++ be3 n.dh ++ be1 n.cycle ++ be2 (n.kit.getD 0xFFFF) ++ n.kind.parts.2

/-! ### Link frames and replies (R157, R162) -/

/-- A frame of the station link: start byte, length, kind, tag, payload, check. -/
def linkFrame (kind tag : Byte) (payload : List Byte) : List Byte :=
  let body := be1 (payload.length + 2) ++ [kind, tag] ++ payload
  [0xA7] ++ body ++ crcBytes body

/-- The bytes of a reply on the line. -/
def Reply.bytes (r : Reply) : List Byte := linkFrame r.kind r.tag r.payload

/-- The reply with a status to the frame of a kind and tag. -/
def statusReply (kind tag : Byte) (st : Status) (content : List Byte) : Reply where
  kind := replyKind kind
  tag := tag
  payload := st.code :: content
  entersLoading := false

/-- The thirty-two bytes READ KIT gives of a record (R34, R178). -/
def readKitBody (kit : Kit) (unsaved : Bool) : List Byte :=
  match kit with
  | .enrolled r =>
    be1 kit.stateCode ++ be1 0 ++
    be1 (ofBits [true, r.moveIssue.isSome, r.heldHours.isSome, r.confirmed.isSome, r.lastSent.isSome,
      r.lastHeard.isSome, r.lastStatus.isSome, unsaved]) ++
    be1 (ofBits [r.answers, !r.settled, r.unlock, r.notify, r.moveSent, r.silentReported]) ++
    be1 r.listen ++ be1 r.ordered ++ be2 ((r.moveIssue.map BitVec.toNat).getD 0) ++ be3 r.horizon ++
    be2 (r.heldHours.getD 0) ++ be2 r.issue.toNat ++ be1 r.mark ++ be2 ((r.confirmed.map BitVec.toNat).getD 0) ++
    be1 r.sends ++ be4 (r.lastSent.getD 0) ++ be4 (r.lastHeard.getD 0) ++ be1 r.missed ++ be1 r.tamper ++
    [(r.lastStatus.map KitStatus.byte).getD 0] ++ be2 0
  | _ => be1 kit.stateCode ++ be1 0 ++ be1 (128 * unsaved.toNat) ++ List.replicate 29 0

/-- The counters in the order of the table of R172. -/
def Counters.toList (c : Counters) : List Nat :=
  [c.bursts, c.headerBursts, c.missedSlots, c.entries, c.staleEntries, c.audits, c.confirmed, c.behind, c.ahead,
   c.badCheck, c.short, c.foreign, c.stray, c.overruns, c.storeRetries, c.linkRejects]

end Sys2Proof.Machine
end

