-- ==== Sys2Proof/Machine/Flags.lean ====
section
/-! DEFINITION. The arithmetic of the district clock and of credit, the serial comparison of issues, the flags a
change of order sets, and the class of a pending kit: functions of a record, a clock and the settings, with no state
of their own. -/

namespace Sys2Proof.Machine

/-! ### The clock's counters (R3, R4) -/

/-- The clock one slot on: the slot steps, and on its wrap the cycle, and on the wrap of the cycle the district hour,
all together; at the end of the hour range the hour holds and the end-of-count flag is set. -/
def Clock.advance (c : Clock) : Clock :=
  if c.slot < 119 then { c with slot := c.slot + 1, tickDue := false }
  else if c.cycle < 59 then { c with slot := 0, cycle := c.cycle + 1, tickDue := false }
  else if c.dh < maxHour then { c with slot := 0, cycle := 0, dh := c.dh + 1, tickDue := false }
  else { c with slot := 0, cycle := 0, endOfCount := true, tickDue := false }

/-- The next slot start brings an hour tick (R3, R4). -/
def Clock.atHourEnd (c : Clock) : Bool := c.slot == 119 && c.cycle == 59

/-- The absolute cycle number every block reads (R3, R4). -/
def Clock.absCycle (c : Clock) : Nat := if c.endOfCount then maxCycle else c.dh * 60 + c.cycle

/-- An interval from a stamp; a stamp after the current absolute cycle gives 0 (R5). -/
def interval (now stamp : Nat) : Nat := now - stamp

/-! ### Credit (chapter 3) -/

/-- The ceiling C (R39). -/
def ceiling (dh advance : Nat) : Nat := min (dh + advance) maxHour

/-- The base a grant starts from: the horizon of a running kit, the present hour for a locked one (R43, step 1). -/
def grantBase (dh old : Nat) : Nat := if dh < old then old else dh

/-- The new horizon of a grant to an ACTIVE kit (R43, steps 2 and 3). -/
def grantHorizon (dh c old h : Nat) : Nat := max old (min (grantBase dh old + h) c)

/-- The accepted hours of a grant to an ACTIVE kit (R43, step 4). -/
def grantAccepted (dh c old h : Nat) : Nat := grantHorizon dh c old h - grantBase dh old

/-- The new held hours of a grant to a HELD kit (R45). -/
def grantHeld (advance held h : Nat) : Nat := max held (min (held + h) advance)

/-- The remaining hours a withdrawal finds (R48). -/
def remainingHours (dh old : Nat) : Nat := old - dh

/-- The held hours of a withdrawal (R48). -/
def withdrawHeld (dh old : Nat) : Nat := min (remainingHours dh old) maxHeldHours

/-- The lost hours of a withdrawal (R48). -/
def withdrawLost (dh old : Nat) : Nat := remainingHours dh old - withdrawHeld dh old

/-- The new horizon of a RESUME (R50). -/
def resumeHorizon (dh c held : Nat) : Nat := min (dh + held) c

/-- The lost hours of a RESUME (R50). -/
def resumeLost (dh c held : Nat) : Nat := dh + held - resumeHorizon dh c held

/-! ### Serial comparison (R56, R57) -/

/-- The distance from issue `y` forward to issue `x` (R56). -/
def issueDistance (y x : Issue) : Nat := (x - y).toNat

/-- How a receipt's held issue reads against the current one (R56). -/
inductive Reading where
  | current
  | behind
  | ahead
deriving DecidableEq, Repr

/-- The reading of a held issue against the current issue (R56). -/
def readIssue (held current : Issue) : Reading :=
  if issueDistance held current = 0 then .current
  else if issueDistance held current ≤ 32767 then .behind
  else .ahead

/-- Issue `x` is at or after issue `y` (R57). -/
def atOrAfter (x y : Issue) : Bool := issueDistance y x ≤ 32767

/-- Issue `x` is newer than issue `y` (R57). -/
def newerThan (x y : Issue) : Bool := 1 ≤ issueDistance y x && issueDistance y x ≤ 32767

/-! ### Records (R18, R20, R22, R23) -/

/-- The kit is ACTIVE. -/
def KitRec.active (r : KitRec) : Bool := r.heldHours.isNone

/-- The kit is locked: held, or its horizon is at or below the district hour (R18, R49). -/
def KitRec.locked (dh : Nat) (r : KitRec) : Bool := r.heldHours.isSome || r.horizon ≤ dh

/-- The unlock flag after a change from `old` to the order of `new` (R23, R50): cleared when the new order leaves the
kit locked, set when it takes the kit from locked to running, and kept otherwise. -/
def unlockAfter (dh : Nat) (old new : KitRec) : Bool :=
  if new.locked dh then false else if old.locked dh then true else old.unlock

/-- A change of order (R22, R23): `new` carries the new horizon, held hours and ordered slot, `old` is the record as
it stood. The issue advances by one, the kit becomes PENDING with its confirmed issue kept, sends becomes 0, and
unlock and notify take their new values. -/
def changeOrder (dh : Nat) (wantNotify : Bool) (old new : KitRec) : KitRec :=
  { new with
    issue := old.issue + 1
    settled := false
    confirmed := old.confirmed
    sends := 0
    unlock := unlockAfter dh old new
    notify := wantNotify }

/-- A record as ENROL and RESTORE set it (R27, R33). -/
def enrolledRec (code : KitCode) (answers : Bool) (slot horizon : Nat) (issue : Issue) : KitRec where
  code := code
  answers := answers
  listen := slot
  ordered := slot
  moveIssue := none
  horizon := horizon
  heldHours := none
  issue := issue
  mark := 0
  confirmed := none
  settled := false
  sends := 0
  unlock := false
  notify := false
  moveSent := false
  lastSent := none
  lastHeard := none
  missed := 0
  silentReported := false
  tamper := 0
  lastStatus := none

/-- A grant accepted into the horizon of an ACTIVE kit (R44). -/
def grantedRec (dh c h : Nat) (wantNotify : Bool) (r : KitRec) : KitRec :=
  changeOrder dh wantNotify r { r with horizon := grantHorizon dh c r.horizon h }

/-- A withdrawn kit (R48). -/
def withdrawnRec (dh : Nat) (wantNotify : Bool) (r : KitRec) : KitRec :=
  changeOrder dh wantNotify r { r with horizon := dh, heldHours := some (withdrawHeld dh r.horizon) }

/-- A resumed kit (R50). -/
def resumedRec (dh c held : Nat) (wantNotify : Bool) (r : KitRec) : KitRec :=
  changeOrder dh wantNotify r { r with horizon := resumeHorizon dh c held, heldHours := none }

/-- A kit ordered to a new slot (R132). -/
def movedRec (dh slot : Nat) (wantNotify : Bool) (r : KitRec) : KitRec :=
  changeOrder dh wantNotify r { r with ordered := slot, moveIssue := some (r.issue + 1), moveSent := false }

/-- A completed move (R137). -/
def completedRec (r : KitRec) : KitRec :=
  { r with listen := r.ordered, moveIssue := none, moveSent := false }

/-- The slots in whose pending lists a record stands (R72, R73). -/
def Kit.requiredSlots : Kit → List Nat
  | .enrolled r =>
    if r.settled then []
    else if r.moveIssue.isSome && r.moveSent && r.ordered != r.listen then [r.listen, r.ordered]
    else [r.listen]
  | _ => []

/-- The kit can reply and is listened for: answering, with the uplink option on (R77, R88). -/
def KitRec.replies (g : Settings) (r : KitRec) : Bool := r.answers && g.uplink

/-! ### Classes (R76, R77) -/

/-- The class of a pending kit at a selection with the given target cycle; none when it is not eligible (R76). -/
def classOf (g : Settings) (target : Nat) (r : KitRec) : Option Class :=
  if r.sends = 0 then some (if r.unlock then .urgent else .ordinary)
  else if r.sends < g.budget || !r.replies g then some .repeated
  else match r.lastSent with
    | some t => if g.slowInterval ≤ interval target t then some .slow else none
    | none => none

/-- A settled kit is due for audit (R82). -/
def auditDue (g : Settings) (target : Nat) (r : KitRec) : Bool :=
  r.settled && r.answers &&
    match r.lastSent with
    | some t => g.auditInterval ≤ interval target t
    | none => true

/-! ### Grace (R62) -/

/-- The kit is in the scope of a walk at a district hour. -/
def inScope (dh scope horizon : Nat) : Bool := scope == 0 || (dh - scope ≤ horizon && horizon ≤ dh)

/-- The record of this kit qualifies for a walk (R62). -/
def qualifies (dh number scope : Nat) : Kit → Bool
  | .enrolled r => r.active && r.mark != number && inScope dh scope r.horizon
  | _ => false

/-- A record after its grace was reckoned, and whether its order was changed (R52, R63). -/
def gracedRec (dh c hours number : Nat) (r : KitRec) : KitRec × Bool :=
  if grantAccepted dh c r.horizon hours = 0 then ({ r with mark := number }, false)
  else ({ grantedRec dh c hours false r with mark := number }, true)

/-! ### Counters and runs that saturate -/

/-- Raise a quantity by 1 up to its limit. -/
def satSucc (limit n : Nat) : Nat := min (n + 1) limit

end Sys2Proof.Machine
end

