-- ==== Sys2Proof/Machine/Ops.lean ====
section
/-! DEFINITION. The named operations over the state that the commands share: reading and changing a record with its
places in the pending lists, posting notices, raising counters, answering frames, the dirty queue, leaving the air,
ending a walk, and the entry to LOADING. -/

namespace Sys2Proof.Machine

/-! ### When the part acts -/

/-- The part is powered and not held by the reset pin (R8). -/
def State.live (s : State) : Bool := s.pins.power && !s.pins.resetPin

/-- The part is live and its reference clock runs. -/
def State.clocked (s : State) : Bool := s.live && !s.pins.refStopped

/-- The district clock gives out events: it is set and the slot timer runs (R2). -/
def State.timed (s : State) : Bool := s.clocked && s.clock.isSet

/-! ### Output pins (R99, R171; assumption 7) -/

/-- The KEY line is asserted: a buffer is ON AIR (R99). -/
def State.key (s : State) : Bool := s.builder.onAir.isSome

/-- The NOTE line is asserted: the queue holds a notice and no pulse runs (R171). -/
def State.note (s : State) : Bool := !s.link.notices.isEmpty && !s.link.pulse

/-- The bytes of the burst on air. -/
def State.airBytes (s : State) : List Byte := (s.builder.onAir.map Burst.encoded).getD []

/-- The bits of the burst on air, in the order they leave on the downlink data line (R99). -/
def State.downlinkBits (s : State) : List Bool := (s.airBytes.map lineBits).flatten

/-- The level of the downlink data line `i` bit times after KEY was asserted, counted while the reference clock runs: the
burst's bits, and the stop-bit level whenever no buffer is ON AIR, as while the reset pin is asserted (R99). -/
def State.downlinkLevel (s : State) (i : Nat) : Bool := lineLevel s.airBytes i

/-- The bytes of the reply being sent. -/
def State.sendingBytes (s : State) : List Byte := (s.link.replies.head?.map Reply.bytes).getD []

/-- The bits of the reply being sent, in the order they leave on the station link (R156). -/
def State.linkBits (s : State) : List Bool := (s.sendingBytes.map lineBits).flatten

/-- The level of the station link's transmit line `i` bit times after the reply being sent began: the reply's bits, and the
stop-bit level while the line is idle (R156). -/
def State.linkLevel (s : State) (i : Nat) : Bool := lineLevel s.sendingBytes i

/-! ### Records and pending lists (R17, R72, R73) -/

/-- The record of a kit number. -/
def State.kit (s : State) (k : Nat) : Kit := lookupAt .free s.roster k

/-- The pending list of a slot, oldest first. -/
def State.list (s : State) (slot : Nat) : List Nat := lookupAt [] s.scheduler.lists slot

/-- Take a kit out of every list but those of the slots to keep; the kits behind it move up. -/
def leaveLists (k : Nat) (keep : List Nat) (m : List (Nat × List Nat)) : List (Nat × List Nat) :=
  (m.map fun e => if keep.contains e.1 then e else (e.1, e.2.filter (· != k))).filter fun e => e.2 != []

/-- A kit joins the tail of a slot's list, or keeps its place there. -/
def joinList (k slot : Nat) (m : List (Nat × List Nat)) : List (Nat × List Nat) :=
  if k ∈ lookupAt [] m slot then m else setAt [] slot (lookupAt [] m slot ++ [k]) m

/-- Bring a kit's places in the lists in line with the slots it is required in (R73). -/
def relist (k : Nat) (slots : List Nat) (m : List (Nat × List Nat)) : List (Nat × List Nat) :=
  slots.foldl (fun m slot => joinList k slot m) (leaveLists k slots m)

/-- The roster applies a request to one record as one act, and the kit takes its places in the lists (R17, R73). -/
def State.putKit (k : Nat) (kit : Kit) (s : State) : State :=
  (s.onRoster (setAt .free k kit)).onScheduler fun c => { c with lists := relist k kit.requiredSlots c.lists }

/-- The enrolled records of the roster. -/
def State.enrolledKits (s : State) : List KitRec :=
  s.roster.filterMap fun e => match e.2 with
    | .enrolled r => some r
    | _ => none

/-- The pending count (R72). -/
def State.pendingCount (s : State) : Nat := (s.enrolledKits.filter fun r => !r.settled).length

/-- The DAMAGED count (R37). -/
def State.damagedCount (s : State) : Nat := (s.roster.filter fun e => e.2 == .damaged).length

/-- The ceiling in force (R39). -/
def State.ceiling (s : State) : Nat := Machine.ceiling s.clock.dh s.settings.advance

/-! ### Notices and counters (R168, R172) -/

/-- Post a notice: it joins the tail of the queue, or is dropped and the lost count rises (R168). -/
def State.post (kind : NoticeKind) (kit : Option Nat) (s : State) : State :=
  s.onLink fun l =>
    if l.notices.length < noticeCapacity then
      { l with notices := l.notices ++ [{ kind := kind, dh := s.clock.dh, cycle := s.clock.cycle, kit := kit }] }
    else { l with lost := satSucc 255 l.lost }

/-- Raise a counter by `n`, saturating at 65,535 (R172). -/
def Counters.raise (which : Counter) (n : Nat) (c : Counters) : Counters :=
  match which with
  | .bursts => { c with bursts := min (c.bursts + n) 65535 }
  | .headerBursts => { c with headerBursts := min (c.headerBursts + n) 65535 }
  | .missedSlots => { c with missedSlots := min (c.missedSlots + n) 65535 }
  | .entries => { c with entries := min (c.entries + n) 65535 }
  | .staleEntries => { c with staleEntries := min (c.staleEntries + n) 65535 }
  | .audits => { c with audits := min (c.audits + n) 65535 }
  | .confirmed => { c with confirmed := min (c.confirmed + n) 65535 }
  | .behind => { c with behind := min (c.behind + n) 65535 }
  | .ahead => { c with ahead := min (c.ahead + n) 65535 }
  | .badCheck => { c with badCheck := min (c.badCheck + n) 65535 }
  | .short => { c with short := min (c.short + n) 65535 }
  | .foreign => { c with foreign := min (c.foreign + n) 65535 }
  | .stray => { c with stray := min (c.stray + n) 65535 }
  | .overruns => { c with overruns := min (c.overruns + n) 65535 }
  | .storeRetries => { c with storeRetries := min (c.storeRetries + n) 65535 }
  | .linkRejects => { c with linkRejects := min (c.linkRejects + n) 65535 }

/-- Raise one of the part's counters by 1. -/
def State.raise (which : Counter) (s : State) : State :=
  s.onLink fun l => { l with counters := l.counters.raise which 1 }

/-! ### Replies (R161, R162) -/

/-- A reply joins the reply list. -/
def State.pushReply (r : Reply) (s : State) : State :=
  s.onLink fun l => { l with replies := l.replies ++ [r] }

/-- The answer to a frame that is not taken, or a reject reply: it is not made when it would take the last free
place, and LINK REJECTS then rises (R162). -/
def State.answerUntaken (r : Reply) (s : State) : State :=
  if s.link.replies.length + 1 < replyCapacity then s.pushReply r else s.raise .linkRejects

/-- The reply of a taken command joins the reply list: the command leaves the hand, and the copy is replaced, or
emptied for tag 0 (R160, R161). -/
def State.answerTaken (k : CmdKind) (tag : Byte) (payload : List Byte) (r : Reply) (s : State) : State :=
  (s.pushReply r).onLink fun l =>
    { l with
      hand := none
      copy := if tag = 0 then none
              else some { kind := k, tag := tag, payload := payload, reply := { r with entersLoading := false } } }

/-- The number enrolled that closes every reply to a taken ENROL BLOCK (R30, R177). -/
def enrolledTail (k : CmdKind) (n : Nat) : List Byte := if k = .enrolBlock then be1 n else []

/-- A taken command is answered with a status and content, none of its records enrolled. -/
def State.answerNow (k : CmdKind) (tag : Byte) (payload : List Byte) (st : Status) (content : List Byte) (s : State) :
    State :=
  s.answerTaken k tag payload (statusReply k.code tag st (content ++ enrolledTail k 0))

/-- The command in hand is answered. -/
def State.answerHand (h : Hand) (st : Status) (content : List Byte) (s : State) : State :=
  s.answerTaken h.kind h.tag h.payload (statusReply h.kind.code h.tag st (content ++ enrolledTail h.kind h.enrolled))

/-- Put a command in hand, or change the one there. -/
def State.setHand (h : Hand) (s : State) : State := s.onLink fun l => { l with hand := some h }

/-- The reply of the command in hand is sent once every request is reckoned and every write it waits for is verified
(R28, R30, R150). -/
def State.settleHand (s : State) : State :=
  match s.link.hand with
  | some h => if h.reckoned && h.awaits.isEmpty && !h.settings then s.answerHand h h.status h.content else s
  | none => s

/-- The operating state changes. -/
def State.setOp (op : OpState) (s : State) : State := s.onLink fun l => { l with op := op }

/-! ### The dirty queue (R145) -/

/-- A record's index joins the tail of the dirty queue, or keeps its place there (R145). -/
def State.enqueue (k : Nat) (s : State) : State :=
  s.onStore fun c => if k ∈ c.queue then c else { c with queue := c.queue ++ [k] }

/-- A request that alters persisted fields is applied: the new record, its lists, and its index in the queue (R24). -/
def State.applyRecord (k : Nat) (kit : Kit) (s : State) : State := (s.putKit k kit).enqueue k

/-- The queue can accept a request for this index at once (R146). -/
def State.canAccept (k : Nat) (s : State) : Bool := s.store.queue.contains k || s.store.queue.length < queueCapacity

/-- The record's index is in the queue or its write is in progress, or it is the write a store fault stopped (R34,
R145, R151). -/
def State.unsaved (k : Nat) (s : State) : Bool :=
  s.store.queue.contains k ||
    match s.store.mode with
    | .writing k' _ _ => k' == k
    | .stopped (.kit k') => k' == k
    | _ => false

/-! ### The record store's places (R144, R149) -/

/-- The place in the memory a write is of, by offset and length. -/
def targetPlace : StoreTarget → Nat × Nat
  | .kit k => (recordOffset k, 19)
  | .settings => (0, 64)

/-- The memory's place for a target holds these bytes from now on. -/
def State.memoryHolds (t : StoreTarget) (bs : List Byte) (s : State) : State :=
  s.onStore fun c => { c with cells := writeRun (targetPlace t).1 (fitTo (targetPlace t).2 bs) c.cells }

/-- The bytes the memory holds at the place of a target. -/
def State.memoryAt (t : StoreTarget) (s : State) : List Byte :=
  readRun s.store.cells (targetPlace t).1 (targetPlace t).2

/-- The bytes a read of a target's place brought; none when the memory was in error. -/
def State.portRead (t : StoreTarget) (r : PortRead) (s : State) : Option (List Byte) :=
  match r with
  | .inError => none
  | .asStored => some (s.memoryAt t)
  | .bytes bs => some (fitTo (targetPlace t).2 bs)

/-- The old and the new contents of a place, byte by byte as the cut left them (R149). -/
def tornBytes (tear : BitVec 64) (old new : List Byte) : List Byte :=
  (List.range old.length).map fun i => if tear.getLsbD i then new.getD i 0 else old.getD i 0

/-- A write in progress ends wherever it stands (R149). -/
def State.cutWrite (tear : BitVec 64) (s : State) : State :=
  match s.store.mode with
  | .writing k image _ => s.memoryHolds (.kit k) (tornBytes tear (s.memoryAt (.kit k)) image)
  | .saving image _ => s.memoryHolds .settings (tornBytes tear (s.memoryAt .settings) image)
  | _ => s

/-! ### Leaving the air, ending a walk (R10, R66, R67, R98) -/

/-- A burst prepared or being prepared is discarded; a burst on air is not affected (R98). -/
def State.discardPreparation (s : State) : State :=
  (s.onBuilder fun b => { b with preparing := none, ready := none }).onScheduler fun c => { c with preparedFor := none }

/-- A walk ends: GRACE DONE is posted and no walk is held (R66, R67). -/
def State.endWalk (w : Walk) (aborted : Bool) (s : State) : State :=
  (s.setWalk none).post (.graceDone w.number w.changed w.next aborted) none

/-- The abort flag of a running walk is set; with no record in hand the walk ends at that moment (R67). -/
def State.abortWalk (s : State) : State :=
  match s.walk with
  | none => s
  | some w => if w.inHand then s.setWalk (some { w with abort := true }) else s.endWalk w true

/-- A record of the walk is finished: the next index moves past it, and the walk ends when its abort flag is set or
the roster is at its end (R61, R63, R66, R67). -/
def State.finishIndex (w : Walk) (changed : Bool) (s : State) : State :=
  let w' := { w with next := w.next + 1, changed := w.changed + changed.toNat, inHand := false }
  if w'.abort then s.endWalk w' true
  else if rosterSize ≤ w'.next then s.endWalk w' false
  else s.setWalk (some w')

/-! ### Reset (R8, R12, R163) -/

/-- Every block takes its reset value. The memory keeps its contents, the pins stand as they are, and the commands
still waiting outside stay. -/
def State.blank (s : State) : State :=
  { State.reset with
    pins := s.pins
    store := { State.reset.store with cells := s.store.cells }
    pending := s.pending }

/-- The part enters LOADING with every block at its reset value and the line rate sampled from SPEED (R8, R12, R156).
`sending` is what is left of the reply list (R163). -/
def State.enterLoading (speed : Bool) (sending : List Reply) (s : State) : State :=
  (s.blank.onPins fun p => { p with fastLine := speed }).onLink fun l => { l with replies := sending }

end Sys2Proof.Machine
end

