-- ==== Sys2Proof/Machine/Rolls.lean ====
section
/-! DEFINITION. Closing rolls, with the charges and notices a close makes, and finishing a frame of the receive FIFO
(R115, R126 to R129). -/

namespace Sys2Proof.Machine

/-- A position is charged at the close of its roll (R128). -/
def charged (g : Settings) (roll : Roll) (p : Position) (r : KitRec) : Bool :=
  g.uplink && !roll.hold && p.outcome != .stale && !p.answered && r.answers

/-- A charged position reports its kit silent: the risen missed run is at the mark and SILENT is still owed (R128). -/
def silentDue (g : Settings) (r : KitRec) : Bool := g.missedMark ≤ satSucc 15 r.missed && !r.silentReported

/-- A charged position reports its kit unreached (R129). -/
def unreachedDue (g : Settings) (p : Position) (r : KitRec) : Bool :=
  p.outcome == .pendingSend && p.sends == g.budget && !r.settled && r.issue == p.issue

/-- One position at the close of its roll (R128, R129). -/
def State.chargePosition (roll : Roll) (s : State) (p : Position) : State :=
  match s.kit p.kit with
  | .enrolled r =>
    if charged s.settings roll p r then
      let run := satSucc 15 r.missed
      let s := s.putKit p.kit
        (.enrolled { r with missed := run, silentReported := r.silentReported || silentDue s.settings r })
      let s := if silentDue s.settings r then s.post (.silent run r.lastHeard) (some p.kit) else s
      if unreachedDue s.settings p r then s.post (.unreached p.issue p.sends run) (some p.kit) else s
    else s
  | _ => s

/-- A roll closes: every position is examined, and its place is free (R128 to R130). -/
def State.closeRoll (s : State) (roll : Roll) : State :=
  (roll.positions.foldl (State.chargePosition roll) s).onBuilder fun b =>
    { b with rolls := b.rolls.filter fun q => q.id != roll.id }

/-- A roll's window has ended and no frame of it waits in the FIFO (R126). -/
def rollDone (fifo : List Frame) (roll : Roll) : Bool :=
  roll.windowEnded && fifo.all fun f => f.roll != some roll.id

/-- Every roll that can close normally closes (R126). -/
def State.closeDone (s : State) : State :=
  (s.builder.rolls.filter (rollDone s.framer.fifo)).foldl State.closeRoll s

/-- The frame in hand is finished: it leaves the FIFO, the handler is IDLE, and rolls that waited for it close
(R115, R126). -/
def State.finishFrame (s : State) : State :=
  ((s.onFramer fun f => { f with fifo := f.fifo.tail }).setHandler .idle).closeDone

end Sys2Proof.Machine
end

