-- ==== Sys2Proof/Machine/Verdicts.lean ====
section
/-! DEFINITION. What each host command that changes a record makes of the record it finds at reckoning (R26, R41): a
refusal or an answer that changes nothing, or the new record with the figures of the reply. -/

namespace Sys2Proof.Machine

/-- The outcome of a reckoning (R41). -/
inductive Verdict where
  /-- A refusal, or a request that changes nothing: answered at reckoning, no room taken. -/
  | answer (st : Status) (content : List Byte)
  /-- A persisted field changes: the new record, with the reply that waits for its verified write. -/
  | apply (kit : Kit) (st : Status) (content : List Byte)
deriving DecidableEq, Repr

/-- The kit number a command names (R176). -/
def kitArg (p : List Byte) : Nat := field p 0 2

/-- KIT STATE with the state found (R162). -/
def wrongState (kit : Kit) : Verdict := .answer .kitState (be1 kit.stateCode)

/-- The slot or the horizon of a record to enrol is out of range (R27). -/
def enrolOutOfRange (c : Nat) (b : List Byte) : Bool := field b 5 1 > 119 || field b 6 3 > c

/-- The record that eleven bytes of arguments describe: kit code, answers, slot, horizon, issue (R27, R176). -/
def enrolArgs (b : List Byte) : KitRec :=
  enrolledRec (BitVec.ofNat 32 (field b 0 4)) (flagAt b 4) (field b 5 1) (field b 6 3) (BitVec.ofNat 16 (field b 9 2))

/-- ENROL, and each record of ENROL BLOCK (R27, R29). -/
def enrolVerdict (c : Nat) (b : List Byte) (kit : Kit) : Verdict :=
  if kit = .free then
    if enrolOutOfRange c b then .answer .range [] else .apply (.enrolled (enrolArgs b)) .ok []
  else wrongState kit

/-- RESTORE (R33). -/
def restoreVerdict (c : Nat) (b : List Byte) (kit : Kit) : Verdict :=
  if kit = .damaged then
    if enrolOutOfRange c b then .answer .range [] else .apply (.enrolled (enrolArgs b)) .ok []
  else wrongState kit

/-- RETIRE (R31). -/
def retireVerdict (kit : Kit) : Verdict :=
  if kit = .free then wrongState kit else .apply .free .ok []

/-- The figures of a GRANT reply (R58, R177). -/
def grantFigures (accepted state figure : Nat) (issue : Issue) (c : Nat) : List Byte :=
  be2 accepted ++ be1 state ++ be3 figure ++ be2 issue.toNat ++ be3 c

/-- GRANT (R42 to R45). -/
def grantVerdict (dh advance : Nat) (p : List Byte) (kit : Kit) : Verdict :=
  let h := field p 2 2
  let notify := flagAt p 4
  let c := ceiling dh advance
  match kit with
  | .enrolled r =>
    if h < 1 ∨ 8760 < h then .answer .range []
    else match r.heldHours with
      | none =>
        let a := grantAccepted dh c r.horizon h
        let r' := grantedRec dh c h notify r
        if a = 0 then .answer .capped (grantFigures 0 1 r.horizon r.issue c)
        else .apply (.enrolled r') (if a = h then .ok else .capped) (grantFigures a 1 r'.horizon r'.issue c)
      | some held =>
        let held' := grantHeld advance held h
        let a := held' - held
        if a = 0 then .answer .capped (grantFigures 0 2 held r.issue c)
        else .apply (.enrolled { r with heldHours := some held' }) (if a = h then .ok else .capped)
          (grantFigures a 2 held' r.issue c)
  | _ => wrongState kit

/-- SET HORIZON (R46, R47). -/
def setHorizonVerdict (dh advance : Nat) (p : List Byte) (kit : Kit) : Verdict :=
  let v := field p 2 3
  let c := ceiling dh advance
  match kit with
  | .enrolled r =>
    if !r.active then wrongState kit
    else if c < v then .answer .range (be3 c)
    else if v = r.horizon then .answer .ok (be3 r.horizon ++ be2 r.issue.toNat ++ be3 c)
    else
      let r' := changeOrder dh (flagAt p 5) r { r with horizon := v }
      .apply (.enrolled r') .ok (be3 r'.horizon ++ be2 r'.issue.toNat ++ be3 c)
  | _ => wrongState kit

/-- WITHDRAW (R48, R49). -/
def withdrawVerdict (dh : Nat) (p : List Byte) (kit : Kit) : Verdict :=
  match kit with
  | .enrolled r =>
    if !r.active then wrongState kit
    else
      let r' := withdrawnRec dh (flagAt p 2) r
      .apply (.enrolled r') .ok
        (be2 (withdrawHeld dh r.horizon) ++ be3 (withdrawLost dh r.horizon) ++ be3 r'.horizon ++ be2 r'.issue.toNat)
  | _ => wrongState kit

/-- RESUME (R50, R51). -/
def resumeVerdict (dh advance : Nat) (p : List Byte) (kit : Kit) : Verdict :=
  let c := ceiling dh advance
  match kit with
  | .enrolled r =>
    match r.heldHours with
    | none => wrongState kit
    | some held =>
      let r' := resumedRec dh c held (flagAt p 2) r
      .apply (.enrolled r') .ok (be3 r'.horizon ++ be3 (resumeLost dh c held) ++ be2 r'.issue.toNat ++ be3 c)
  | _ => wrongState kit

/-- MOVE (R131, R132). -/
def moveVerdict (dh : Nat) (uplink : Bool) (p : List Byte) (kit : Kit) : Verdict :=
  let slot := field p 2 1
  match kit with
  | .enrolled r =>
    if !r.answers || !uplink then .answer .oneWay []
    else if r.moveIssue.isSome then wrongState kit
    else if 119 < slot ∨ slot = r.listen then .answer .range []
    else
      let r' := movedRec dh slot (flagAt p 3) r
      .apply (.enrolled r') .ok (be2 r'.issue.toNat ++ be2 r'.issue.toNat ++ be1 r'.listen ++ be1 r'.ordered)
  | _ => wrongState kit

/-- The eleven bytes of record `i` of an ENROL BLOCK (R176). -/
def blockArgs (p : List Byte) (i : Nat) : List Byte := (p.drop (3 + 11 * i)).take 11

/-- The verdict of a command on the record of the kit it names, against the clock and the settings as they stand
(R24, R41). The commands that name no kit to change are never reckoned. -/
def commandVerdict (s : State) (k : CmdKind) (p : List Byte) (kit : Kit) : Verdict :=
  let dh := s.clock.dh
  let advance := s.settings.advance
  match k with
  | .enrol => enrolVerdict s.ceiling (p.drop 2) kit
  | .restore => restoreVerdict s.ceiling (p.drop 2) kit
  | .retire => retireVerdict kit
  | .grant => grantVerdict dh advance p kit
  | .setHorizon => setHorizonVerdict dh advance p kit
  | .withdraw => withdrawVerdict dh p kit
  | .resume => resumeVerdict dh advance p kit
  | .move => moveVerdict dh s.settings.uplink p kit
  | _ => wrongState kit

end Sys2Proof.Machine
end

