-- ==== Sys2Proof/Machine/Reckon.lean ====
section
/-! DEFINITION. Requests that wait for the dirty queue and their reckoning (R24, R41, R146), the start of writes
(R147), the end of writes (R148, R150), and the store fault (R151). -/

namespace Sys2Proof.Machine

/-! ### The three requesters -/

/-- The requester after this one in the circle (R146). -/
def Requester.next : Requester → Requester
  | .link => .walker
  | .walker => .handler
  | .handler => .link

/-- The kit a handler's request is for. -/
def HandlerReq.kit : HandlerReq → Nat
  | .completeMove k => k
  | .tamperHold k => k

/-- The kit the command in hand waits to have reckoned, if it does. -/
def Hand.target (h : Hand) : Option Nat :=
  if h.reckoned then none
  else if h.kind = .enrolBlock then some (kitArg h.payload + h.enrolled)
  else some (kitArg h.payload)

/-- The index of the request a requester has made that is still to be reckoned. -/
def State.wants (s : State) : Requester → Option Nat
  | .link => s.link.hand.bind Hand.target
  | .walker => s.walk.bind fun w => if w.inHand then some w.next else none
  | .handler =>
    match s.handler with
    | .stalled q _ => some q.kit
    | .idle => none

/-! ### Reckoning (R41, R52, R53, R63, R137) -/

/-- The next record of an ENROL BLOCK is reckoned (R29): applied, or the block stops with its refusal. A kit number
above 4,095 stops it without waiting (R26). -/
def State.reckonBlock (h : Hand) (s : State) : State :=
  let k := kitArg h.payload + h.enrolled
  match enrolVerdict s.ceiling (blockArgs h.payload h.enrolled) (s.kit k) with
  | .answer st content => (s.setHand { h with reckoned := true, status := st, content := content }).settleHand
  | .apply kit _ _ =>
    let h' := { h with enrolled := h.enrolled + 1, awaits := h.awaits ++ [(k, false)] }
    let h' :=
      if field h.payload 2 1 ≤ h'.enrolled then { h' with reckoned := true, status := .ok, content := [] }
      else if rosterSize ≤ k + 1 then { h' with reckoned := true, status := .noKit, content := [] }
      else h'
    (s.applyRecord k kit).setHand h'

/-- The command in hand is reckoned against the record, the clock and the settings as they stand (R41). -/
def State.reckonLink (s : State) : State :=
  match s.link.hand with
  | none => s
  | some h =>
    if h.reckoned then s
    else if h.kind = .enrolBlock then s.reckonBlock h
    else
      let k := kitArg h.payload
      match commandVerdict s h.kind h.payload (s.kit k) with
      | .answer st content => s.answerHand h st content
      | .apply kit st content =>
        (s.applyRecord k kit).setHand
          { h with reckoned := true, status := st, content := content, awaits := [(k, false)] }

/-- The grace of the record in hand is reckoned, with the tests of R62 made again (R63). -/
def State.reckonWalker (s : State) : State :=
  match s.walk with
  | none => s
  | some w =>
    if w.inHand then
      match s.kit w.next with
      | .enrolled r =>
        if qualifies s.clock.dh w.number w.scope (.enrolled r) then
          let (r', changed) := gracedRec s.clock.dh s.ceiling w.hours w.number r
          (s.applyRecord w.next (.enrolled r')).finishIndex w changed
        else s.finishIndex w false
      | _ => s.finishIndex w false
    else s

/-- The completion of a move is reckoned; with no move pending it is passed over (R137). -/
def State.reckonMove (k : Nat) (s : State) : State :=
  match s.kit k with
  | .enrolled r =>
    match r.moveIssue with
    | some mi => (s.applyRecord k (.enrolled (completedRec r))).post (.moved r.listen r.ordered mi) (some k)
    | none => s
  | _ => s

/-- A withdrawal on tamper is reckoned; a kit no longer ACTIVE is passed over (R53, R122). -/
def State.reckonTamper (k : Nat) (s : State) : State :=
  match s.kit k with
  | .enrolled r =>
    if r.active then
      let dh := s.clock.dh
      let r' := withdrawnRec dh false r
      (s.applyRecord k (.enrolled r')).post
        (.autoHeld (withdrawHeld dh r.horizon) (withdrawLost dh r.horizon) r'.issue) (some k)
    else s
  | _ => s

/-- The request of the frame in hand is reckoned; then the frame's second request is made, or the frame is finished
(R124). -/
def State.reckonHandler (s : State) : State :=
  match s.handler with
  | .idle => s
  | .stalled q second =>
    let s := match q with
      | .completeMove k => s.reckonMove k
      | .tamperHold k => s.reckonTamper k
    match second with
    | some q' => s.setHandler (.stalled q' none)
    | none => s.finishFrame

/-- Reckon the request of a requester. -/
def State.serve (r : Requester) (s : State) : State :=
  match r with
  | .link => s.reckonLink
  | .walker => s.reckonWalker
  | .handler => s.reckonHandler

/-! ### Giving out room (R146) -/

/-- Serve a requester if its request is for this index. -/
def State.serveIfFor (k : Nat) (s : State) (r : Requester) : State :=
  if s.wants r = some k then s.serve r else s

/-- A request is accepted and reckoned. When its index enters the queue, the other requests that wait for the same
index are accepted and reckoned in the same act (R146), in the order of the circle (assumption 13). -/
def State.serveAccepted (r : Requester) (s : State) : State :=
  match s.wants r with
  | none => s
  | some k =>
    let s' := s.serve r
    if !s.store.queue.contains k && s'.store.queue.contains k then
      (s'.serveIfFor k r.next).serveIfFor k r.next.next
    else s'

/-- The first waiting requester at or after the rotation pointer (R146). -/
def State.firstWaiting (s : State) : Option Requester :=
  let r := s.store.rotation
  [r, r.next, r.next.next].find? fun q => (s.wants q).isSome

/-- Room is given to the waiting requesters in the circle until one takes it or none waits (R146). -/
def State.giveRoom : Nat → State → State
  | 0, s => s
  | n + 1, s =>
    if s.store.queue.length < queueCapacity then
      match s.firstWaiting with
      | some r => State.giveRoom n ((s.serveAccepted r).onStore fun c => { c with rotation := r.next })
      | none => s
    else s

/-! ### Starting writes (R147, R150, R152) -/

/-- The write of a record starts: a reply that waits for this record's next write is completed by it (R150). -/
def markStarted (k : Nat) (h : Hand) : Hand :=
  { h with awaits := h.awaits.map fun a => if a.1 = k then (k, true) else a }

/-- A record write starts on the head of the queue: the index leaves the queue, the room so made is given out, and the
write image is taken, in one act (R147). Requests wait for room only when the queue was full. -/
def State.startRecordWrite (k : Nat) (rest : List Nat) (s : State) : State :=
  let full := decide (queueCapacity ≤ s.store.queue.length)
  let s := (s.onStore fun c => { c with queue := rest }).onLink fun l => { l with hand := l.hand.map (markStarted k) }
  let s := if full then s.giveRoom 4 else s
  s.onStore fun c => { c with mode := .writing k (recordImage k (s.kit k)) 1 }

/-- In IDLE the next write starts: the owed settings write first, then the head of the queue (R147, R152). -/
def State.startNextWrite (s : State) : State :=
  match s.store.mode with
  | .idle =>
    if s.store.owed then
      s.onStore fun c => { c with mode := .saving (settingsImage s.settings s.scheduler.pattern) 1 }
    else match s.store.queue with
      | [] => s
      | k :: rest => s.startRecordWrite k rest
  | _ => s

/-- A requester's request is accepted if the queue can take it now, and a write starts if the controller is IDLE
(R146, R147). Otherwise the requester waits. -/
def State.tryAccept (r : Requester) (s : State) : State :=
  match s.wants r with
  | some k => if s.canAccept k then (s.serveAccepted r).startNextWrite else s
  | none => s

/-! ### Ending writes (R148, R150, R151, R152) -/

/-- A record write ends with success: the replies it completes are sent and the next write starts (R148, R150). -/
def State.recordVerified (k : Nat) (s : State) : State :=
  ((s.onStore fun c => { c with mode := .idle }).onLink fun l =>
    { l with hand := l.hand.map fun h => { h with awaits := h.awaits.filter fun a => a != (k, true) } }).settleHand.startNextWrite

/-- The settings write ends with success: SAVE SETTINGS is answered and the next write starts (R152). -/
def State.settingsVerified (s : State) : State :=
  ((s.onStore fun c => { c with mode := .idle, owed := false }).onLink fun l =>
    { l with hand := l.hand.map fun h => { h with settings := false } }).settleHand.startNextWrite

/-- A request the receipt handler waits for is withdrawn unreckoned and the frame is finished (R125). -/
def State.withdrawHandler (s : State) : State :=
  match s.handler with
  | .stalled _ _ => s.finishFrame
  | .idle => s

/-- A store fault (R151): the controller stops, STORE FAULT is posted, and the part enters FAULTED with the effects of
R13 on the radio, the walk, the receipt handler and the command in hand. -/
def State.storeFault (t : StoreTarget) (memoryError : Bool) (s : State) : State :=
  let kit := match t with
    | .kit k => some k
    | .settings => none
  let s := (s.onStore fun c => { c with mode := .stopped t }).post (.storeFault (t == .settings) memoryError) kit
  let s := (s.setOp .faulted).discardPreparation
  let s := match s.walk with
    | some w => s.endWalk w true
    | none => s
  let s := s.withdrawHandler
  match s.link.hand with
  | some h => s.answerHand h .faulted []
  | none => s

/-- An attempt failed: a further one starts at once with the same image, or the third failure is a store fault (R148,
R151). -/
def State.attemptFailed (memoryError : Bool) (s : State) : State :=
  match s.store.mode with
  | .writing k image n =>
    if n < 3 then (s.onStore fun c => { c with mode := .writing k image (n + 1) }).raise .storeRetries
    else s.storeFault (.kit k) memoryError
  | .saving image n =>
    if n < 3 then (s.onStore fun c => { c with mode := .saving image (n + 1) }).raise .storeRetries
    else s.storeFault .settings memoryError
  | _ => s

/-- A record write's attempt was read back: it succeeds when the bytes equal the image (R148). -/
def State.recordReadBack (k : Nat) (image bs : List Byte) (s : State) : State :=
  let s := s.memoryHolds (.kit k) bs
  if fitTo 19 bs = image then s.recordVerified k else s.attemptFailed false

/-- The settings write's attempt was read back (R148, R152). -/
def State.settingsReadBack (image bs : List Byte) (s : State) : State :=
  let s := s.memoryHolds .settings bs
  if fitTo 64 bs = image then s.settingsVerified else s.attemptFailed false

end Sys2Proof.Machine
end

