-- ==== Sys2Proof/Machine/LinkFrames.lean ====
section
/-! DEFINITION. Taking a frame of the station link (R14, R160 to R162): the tests every complete, good frame goes
through, the admission of commands by operating state, and the commands that make a request of one record. -/

namespace Sys2Proof.Machine

/-- The commands an operating state admits (R14). -/
def admits (k : CmdKind) (op : OpState) : Bool :=
  match k with
  | .identify | .status | .fetchNotices | .counters => true
  | .readKit | .reset => op == .standby || op == .onAir || op == .faulted
  | .configure | .setClock => op == .standby
  | .loadPattern | .saveSettings | .start | .stop | .enrol | .enrolBlock | .retire | .restore | .grant | .setHorizon
  | .withdraw | .resume | .move | .grace | .graceAbort => op == .standby || op == .onAir

/-- The commands the clock-set flag gates (R7). -/
def gated : CmdKind → Bool
  | .enrol | .enrolBlock | .retire | .restore | .grant | .setHorizon | .withdraw | .resume | .move | .grace => true
  | _ => false

/-- The copied reply, when the frame repeats the last command taken (R161). -/
def State.repeatOf (s : State) (k : CmdKind) (tag : Byte) (p : List Byte) : Option Reply :=
  match s.link.copy with
  | some c => if c.kind = k ∧ c.tag = tag ∧ c.payload = p then some c.reply else none
  | none => none

/-- A taken command is checked against the operating state and the clock-set flag, and then decided by its own rule
(R14). -/
def State.admitFrame (k : CmdKind) (tag : Byte) (p : List Byte) (rule : Byte → List Byte → State → State) (s : State) :
    State :=
  if !admits k s.link.op then s.answerNow k tag p .state (be1 s.link.op.code)
  else if gated k && !s.clock.isSet then s.answerNow k tag p .noClock []
  else rule tag p s

/-- The tests of a complete frame with a good check whose kind names a command: busy, repeat, length, room for its
reply; then it is taken (R160, R162). The frame receiver is WAITING afterwards (R158). A part that is unpowered or held
by the reset pin takes no bytes (R8). -/
def State.receiveFrame (k : CmdKind) (tag : Byte) (p : List Byte) (rule : Byte → List Byte → State → State) (s : State) :
    State :=
  if s.live then
    let s := s.onLink fun l => { l with receiver := .waiting }
    if s.link.hand.isSome then s.answerUntaken (statusReply k.code tag .busy [])
    else match s.repeatOf k tag p with
      | some r => s.answerUntaken r
      | none =>
        if p.length != requiredLength k p then
          s.answerUntaken (statusReply k.code tag .badLength (be1 (requiredLength k p)))
        else if replyCapacity ≤ s.link.replies.length then s.raise .linkRejects
        else s.admitFrame k tag p rule
  else s

/-- A command in hand that waits to be reckoned. -/
def newHand (k : CmdKind) (tag : Byte) (p : List Byte) : Hand where
  kind := k
  tag := tag
  payload := p
  reckoned := false
  enrolled := 0
  status := .ok
  content := []
  awaits := []
  settings := false

/-- The rule of a command that makes a request of the kit it names: a kit number above 4,095 is answered NO KIT at
once, and otherwise the command is in hand and its request is reckoned now or waits for the dirty queue (R24, R26,
R28). -/
def State.requestRule (k : CmdKind) (tag : Byte) (p : List Byte) (s : State) : State :=
  if rosterSize ≤ kitArg p then s.answerNow k tag p .noKit [] else (s.setHand (newHand k tag p)).tryAccept .link

end Sys2Proof.Machine
end

