-- ==== Sys2Proof/Machine/Selection.lean ====
section
/-! DEFINITION. The selection act and the preparation of a burst (R79 to R84, R91 to R95), and the count of an entry
at transmission (R85 to R89). -/

namespace Sys2Proof.Machine

/-! ### The three fills (R80 to R82) -/

/-- The kits of a pending list that are eligible at a selection, oldest first, each with its class (R76). -/
def State.candidates (s : State) (slot target : Nat) : List (Nat × Class) :=
  (s.list slot).filterMap fun k => match s.kit k with
    | .enrolled r => (classOf s.settings target r).map fun c => (k, c)
    | _ => none

/-- What one pattern step chooses: the oldest kit of its class not yet chosen, or nothing at a vetoed step (R80). -/
def stepChoice (st : Option PatternStep) (cands : List (Nat × Class)) (chosen : List Nat) : List Nat :=
  match st with
  | none => []
  | some st =>
    if st.veto then []
    else ((cands.find? fun c => c.2 = st.cls && !chosen.contains c.1).map (·.1)).toList

/-- The pattern pass: at most `n` steps from the pointer, stopping once `p` kits are chosen (R80). It answers the
pointer and the kits chosen, in the order of choice. -/
def patternPass (pat : List PatternStep) (cands : List (Nat × Class)) (p : Nat) : Nat → Nat → List Nat → Nat × List Nat
  | 0, ptr, chosen => (ptr, chosen)
  | n + 1, ptr, chosen =>
    if p ≤ chosen.length then (ptr, chosen)
    else patternPass pat cands p n ((ptr + 1) % 16) (chosen ++ stepChoice pat[ptr]? cands chosen)

/-- The remainder fill: the oldest eligible kits of any class that are not chosen yet (R81). -/
def remainderFill (cands : List (Nat × Class)) (p : Nat) (chosen : List Nat) : List Nat :=
  cands.foldl (fun ch c => if ch.length < p && !ch.contains c.1 then ch ++ [c.1] else ch) chosen

/-- The roster in the order a lap from the audit pointer visits it (R82). -/
def auditLap (roster : List (Nat × Kit)) (ptr : Nat) : List (Nat × Kit) :=
  roster.filter (fun e => ptr ≤ e.1) ++ roster.filter (fun e => e.1 < ptr)

/-- The kits a lap may choose, in the order it visits them (R82). -/
def State.auditable (s : State) (slot target ptr : Nat) : List Nat :=
  (auditLap s.roster ptr).filterMap fun e => match e.2 with
    | .enrolled r => if r.listen = slot && auditDue s.settings target r then some e.1 else none
    | _ => none

/-- The audit fill: the kits it chooses and the audit pointer it leaves. With the burst full the pointer is the number
after the last visited; after a complete lap it is where it began (R82). -/
def State.auditFill (s : State) (slot target room : Nat) : List Nat × Nat :=
  let ptr := lookupAt 0 s.scheduler.auditPtrs slot
  if 0 < room ∧ 0 < s.settings.auditInterval ∧ s.settings.uplink then
    let picks := (s.auditable slot target ptr).take room
    (picks, if picks.length = room then (picks.getLastD 0 + 1) % rosterSize else ptr)
  else ([], ptr)

/-! ### Preparation (R79, R83, R91 to R95) -/

/-- The entry the selection act hands the builder for a chosen kit: its order as it stands, its origin and its code. -/
def State.entryOf (s : State) (audit : Bool) (k : Nat) : Option Entry :=
  match s.kit k with
  | .enrolled r =>
    some { kit := k, issue := r.issue, horizon := r.horizon, slot := r.ordered, held := r.heldHours.isSome
           audit := audit, code := r.code }
  | _ => none

/-- A preparation for the slot after the current one begins with its selection act, as one act (R79, R92). The burst
carries the time of its slot (R15), and the reply-hold flag is fixed from the dirty fill (R93). With no kit chosen the
refresh rule decides between a header-only burst and none (R83). -/
def State.prepare (s : State) : State :=
  let c := s.clock.advance
  let g := s.settings
  let cands := s.candidates c.slot c.absCycle
  let pass := patternPass s.scheduler.pattern cands g.packing 16 s.scheduler.pointer []
  let pend := remainderFill cands g.packing pass.2
  let audits := s.auditFill c.slot c.absCycle (g.packing - pend.length)
  let entries := pend.filterMap (s.entryOf false) ++ audits.1.filterMap (s.entryOf true)
  let idle := lookupAt 0 s.scheduler.idle c.slot
  let send := !entries.isEmpty || (0 < g.refresh && g.refresh ≤ idle)
  let burst : Burst :=
    { slot := c.slot, cycle := c.cycle, dh := c.dh, targetCycle := c.absCycle
      hold := decide (g.holdMark ≤ s.store.queue.length)
      district := g.district, entries := entries, encoded := [] }
  (s.onScheduler fun q =>
    { q with
      pointer := pass.1
      auditPtrs := setAt 0 c.slot audits.2 q.auditPtrs
      idle := if send then q.idle else setAt 0 c.slot (satSucc 255 idle) q.idle
      preparedFor := some c.slot }).onBuilder fun b => { b with preparing := if send then some burst else none }

/-- A preparation begins if neither buffer is PREPARING or READY (R91, R92). -/
def State.beginPreparation (s : State) : State :=
  if s.builder.preparing.isNone && s.builder.ready.isNone then s.prepare else s

/-! ### Counting at transmission (R85 to R89) -/

/-- A kit settles: its confirmed issue is the current one, it leaves every list, and DELIVERED is posted if it is owed
(R25, R89, R119). -/
def State.settleKit (k : Nat) (r : KitRec) (confirmed : Bool) (s : State) : State :=
  let s := s.putKit k (.enrolled { r with confirmed := some r.issue, settled := true, notify := false })
  if r.notify then s.post (.delivered r.issue confirmed) (some k) else s

/-- What every counted entry does to its kit (R87). -/
def countedRec (now : Nat) (r : KitRec) : KitRec :=
  { r with lastSent := some now, unlock := false, moveSent := r.moveSent || r.moveIssue.isSome }

/-- The sends of a kit after a counted pending send (R88). -/
def sendsAfter (g : Settings) (hold : Bool) (r : KitRec) : Nat :=
  if !r.replies g || !hold then satSucc 255 r.sends else r.sends

/-- The kit settles by budget at this count (R89). -/
def settlesByBudget (g : Settings) (hold : Bool) (r : KitRec) : Bool :=
  !r.replies g && g.budget ≤ sendsAfter g hold r

/-- One entry is counted at the slot start at which its burst goes on air; the answer is the part with the roll's
position for it (R85 to R89, R102). A position whose kit is no longer enrolled has no sends to hold; that it holds 0 is the
model's choice, which nothing reads (assumption 41). -/
def State.countEntry (hold : Bool) (e : Entry) (s : State) : State × Position :=
  let pos (o : CountOutcome) (sends : Nat) : Position :=
    { kit := e.kit, issue := e.issue, outcome := o, sends := sends, answered := false }
  match s.kit e.kit with
  | .enrolled r =>
    if r.issue = e.issue then
      let r' := countedRec s.clock.absCycle r
      if r.settled || e.audit then
        let s := s.putKit e.kit (.enrolled r')
        (if e.audit then s.raise .audits else s, pos .other r.sends)
      else
        let sends := sendsAfter s.settings hold r
        let r' := { r' with sends := sends }
        (if settlesByBudget s.settings hold r then s.settleKit e.kit r' false else s.putKit e.kit (.enrolled r'),
          pos .pendingSend sends)
    else (s, pos .stale r.sends)
  | _ => (s, pos .stale 0)

/-- The entries of a burst are counted in position order (R85). -/
def State.countEntries (hold : Bool) : List Entry → State → State × List Position
  | [], s => (s, [])
  | e :: es, s =>
    let one := s.countEntry hold e
    let rest := State.countEntries hold es one.1
    (rest.1, one.2 :: rest.2)

/-! ### Going on air (R97, R102, R103) -/

/-- A roll is opened for a burst with entries; with two open the older is closed first (R102, R103). -/
def State.openRoll (b : Burst) (positions : List Position) (s : State) : State :=
  let s := match s.builder.rolls with
    | oldest :: _ => if rollCapacity ≤ s.builder.rolls.length then s.closeRoll oldest else s
    | [] => s
  s.onBuilder fun q =>
    { q with
      rolls := q.rolls ++ [{ id := q.nextRoll, slot := b.slot, cycle := b.targetCycle, hold := b.hold
                             windowEnded := false, positions := positions }]
      nextRoll := q.nextRoll + 1
      slotRoll := some q.nextRoll }

/-- The counters a burst raises as it goes on air (R97). -/
def countBurst (entries stale : Nat) (c : Counters) : Counters :=
  let c := c.raise .bursts 1
  let c := if entries = 0 then c.raise .headerBursts 1 else c
  (c.raise .entries entries).raise .staleEntries stale

/-- A READY burst goes on air: its buffer is ON AIR, its entries are counted, its roll is opened, the slot's idle
counter is 0 and the counters rise (R97). -/
def State.goOnAir (b : Burst) (s : State) : State :=
  let s := s.onBuilder fun q => { q with ready := none, onAir := some b }
  let counted := s.countEntries b.hold b.entries
  let s := counted.1
  let s := if b.entries.isEmpty then s else s.openRoll b counted.2
  let stale := (counted.2.filter fun p => p.outcome == .stale).length
  (s.onScheduler fun q => { q with idle := setAt 0 b.slot 0 q.idle }).onLink fun l =>
    { l with counters := countBurst b.entries.length stale l.counters }

end Sys2Proof.Machine
end

