-- ==== Sys2Proof/Machine/Control.lean ====
section
/-! DEFINITION. The family of the commands on the part as a whole: IDENTIFY, STATUS, CONFIGURE, LOAD PATTERN, SAVE
SETTINGS, SET CLOCK, START, STOP, RESET, FETCH NOTICES, COUNTERS (R6, R9 to R11, R152, R164 to R173). -/

namespace Sys2Proof.Machine

open Host (Outcome)

/-! ### Reports (R164, R165, R173) -/

/-- The content of an IDENTIFY reply (R164, R177). -/
def State.identity (s : State) : List Byte :=
  be2 0x7A31 ++ be2 0x0460 ++ be1 (1 + Config.designLevelIndex.val) ++ be2 rosterSize ++ be1 queueCapacity ++
    be1 noticeCapacity ++ be1 fifoCapacity ++ be1 s.pins.fastLine.toNat ++ be1 s.link.op.code

/-- The rule of a taken IDENTIFY. -/
def identifyRule (tag : Byte) (p : List Byte) (s : State) : State := s.answerNow .identify tag p .ok s.identity

/-- IDENTIFY (R164). -/
def execIdentify (tag : Byte) (p : List Byte) (s : State) : Outcome State Fault Refusal :=
  .next (s.receiveFrame .identify tag p identifyRule)

/-- The clock values of a STATUS reply: 0 while the clock is unset (R16, R165). -/
def Clock.report (c : Clock) : List Byte :=
  if c.isSet then be1 1 ++ be3 c.dh ++ be1 c.cycle ++ be1 c.slot else be1 0 ++ be3 0 ++ be1 0 ++ be1 0

/-- The content of a STATUS reply (R165, R177). With no walk the grace number is 0, and no rule gives the next index a value:
the model's choice there is a free value (assumption 40). -/
def State.statusReport (s : State) : List Byte :=
  be1 s.link.op.code ++ s.clock.report ++ be2 s.pendingCount ++ be1 s.store.queue.length ++ be1 s.link.notices.length ++
    be1 s.link.lost ++ be2 s.damagedCount ++
    (match s.walk with
      | some w => be1 w.number ++ be2 w.next
      | none => be1 0 ++ be2 Config.idleWalkIndex.toNat)

/-- The rule of a taken STATUS. -/
def statusRule (tag : Byte) (p : List Byte) (s : State) : State := s.answerNow .status tag p .ok s.statusReport

/-- STATUS (R165). -/
def execStatus (tag : Byte) (p : List Byte) (s : State) : Outcome State Fault Refusal :=
  .next (s.receiveFrame .status tag p statusRule)

/-- The content of a COUNTERS reply (R173, R177). -/
def Counters.report (c : Counters) : List Byte := (c.toList.map be2).flatten

/-- The rule of a taken COUNTERS: the figures are reported, and zeroed in the same act if the flag is set (R173). -/
def countersRule (tag : Byte) (p : List Byte) (s : State) : State :=
  (s.answerNow .counters tag p .ok s.link.counters.report).onLink fun l =>
    { l with counters := if flagAt p 0 then .zero else l.counters }

/-- COUNTERS (R173). -/
def execCounters (tag : Byte) (p : List Byte) (s : State) : Outcome State Fault Refusal :=
  .next (s.receiveFrame .counters tag p countersRule)

/-! ### Notices (R169, R171) -/

/-- The most notices one FETCH NOTICES returns (R169). -/
def fetchLimit : Nat := 8

/-- The content of a FETCH NOTICES reply (R169, R177). -/
def Link.fetched (l : Link) : List Byte :=
  let out := l.notices.take fetchLimit
  be1 l.lost ++ be1 (l.notices.length - out.length) ++ be1 out.length ++ (out.map Notice.bytes).flatten

/-- The notices returned leave the queue and the lost count is zeroed; in pulse mode a fetch that leaves notices starts
the NOTE pulse afresh (R169, R171). -/
def Link.afterFetch (pulseMode : Bool) (l : Link) : Link :=
  { l with
    notices := l.notices.drop fetchLimit
    lost := 0
    pulse := l.pulse || (pulseMode && !(l.notices.drop fetchLimit).isEmpty) }

/-- The rule of a taken FETCH NOTICES. -/
def fetchNoticesRule (tag : Byte) (p : List Byte) (s : State) : State :=
  (s.answerNow .fetchNotices tag p .ok s.link.fetched).onLink (Link.afterFetch s.settings.notePulse)

/-- FETCH NOTICES (R169). -/
def execFetchNotices (tag : Byte) (p : List Byte) (s : State) : Outcome State Fault Refusal :=
  .next (s.receiveFrame .fetchNotices tag p fetchNoticesRule)

/-! ### Settings (R152, R166, R167) -/

/-- The rule of a taken CONFIGURE: every setting is replaced in one act, or none (R166). -/
def configureRule (tag : Byte) (p : List Byte) (s : State) : State :=
  match firstBadField p with
  | some n => s.answerNow .configure tag p .range (be1 n)
  | none => (s.setSettings (settingsOfBytes p)).answerNow .configure tag p .ok []

/-- CONFIGURE (R166). -/
def execConfigure (tag : Byte) (p : List Byte) (s : State) : Outcome State Fault Refusal :=
  .next (s.receiveFrame .configure tag p configureRule)

/-- The rule of a taken LOAD PATTERN: the pattern is replaced and its pointer set to 0, or RANGE (R78, R167). -/
def loadPatternRule (tag : Byte) (p : List Byte) (s : State) : State :=
  match firstBadStep p with
  | some n => s.answerNow .loadPattern tag p .range (be1 n)
  | none =>
    (s.onScheduler fun q => { q with pattern := patternOfBytes p, pointer := 0 }).answerNow .loadPattern tag p .ok []

/-- LOAD PATTERN (R167). -/
def execLoadPattern (tag : Byte) (p : List Byte) (s : State) : Outcome State Fault Refusal :=
  .next (s.receiveFrame .loadPattern tag p loadPatternRule)

/-- The rule of a taken SAVE SETTINGS: a settings write is owed, and starts at once if no write is in progress; the
command is in hand until it is verified (R150, R152). -/
def saveSettingsRule (tag : Byte) (p : List Byte) (s : State) : State :=
  ((s.setHand { newHand .saveSettings tag p with reckoned := true, settings := true }).onStore fun c =>
    { c with owed := true }).startNextWrite

/-- SAVE SETTINGS (R152). -/
def execSaveSettings (tag : Byte) (p : List Byte) (s : State) : Outcome State Fault Refusal :=
  .next (s.receiveFrame .saveSettings tag p saveSettingsRule)

/-! ### The clock (R6) -/

/-- The radio is quiet (R6): no burst on air, no roll open, no reply window being searched. -/
def State.radioQuiet (s : State) : Bool :=
  s.builder.onAir.isNone && s.builder.rolls.isEmpty && s.framer.window.isNone

/-- The clock as SET CLOCK leaves it: at the slot start of slot 0 (R6). -/
def setClockTo (dh cycle : Nat) : Clock where
  isSet := true
  dh := dh
  cycle := cycle
  slot := 0
  endOfCount := false
  timer := .boundary
  tickDue := false

/-- The rule of a taken SET CLOCK (R6). -/
def setClockRule (tag : Byte) (p : List Byte) (s : State) : State :=
  if !s.radioQuiet then s.answerNow .setClock tag p .state (be1 s.link.op.code)
  else if 59 < field p 3 1 then s.answerNow .setClock tag p .range []
  else (s.onClock fun _ => setClockTo (field p 0 3) (field p 3 1)).answerNow .setClock tag p .ok []

/-- SET CLOCK (R6). -/
def execSetClock (tag : Byte) (p : List Byte) (s : State) : Outcome State Fault Refusal :=
  .next (s.receiveFrame .setClock tag p setClockRule)

/-! ### Operating states (R9 to R11) -/

/-- The rule of a taken START (R9). -/
def startRule (tag : Byte) (p : List Byte) (s : State) : State :=
  if s.link.op = .onAir then s.answerNow .start tag p .state (be1 s.link.op.code)
  else if !s.clock.isSet || s.settings.district == 0 then s.answerNow .start tag p .notReady []
  else ((s.setOp .onAir).answerNow .start tag p .ok []).beginPreparation

/-- START (R9). -/
def execStart (tag : Byte) (p : List Byte) (s : State) : Outcome State Fault Refusal :=
  .next (s.receiveFrame .start tag p startRule)

/-- The rule of a taken STOP (R10). -/
def stopRule (tag : Byte) (p : List Byte) (s : State) : State :=
  if s.link.op = .standby then s.answerNow .stop tag p .state (be1 s.link.op.code)
  else ((s.setOp .standby).answerNow .stop tag p .ok []).discardPreparation

/-- STOP (R10). -/
def execStop (tag : Byte) (p : List Byte) (s : State) : Outcome State Fault Refusal :=
  .next (s.receiveFrame .stop tag p stopRule)

/-- The rule of a taken RESET (R11): the reply joins first. From STANDBY or ON AIR the part enters CLOSING, the radio
treated as by STOP and a walk ended as by GRACE ABORT; from FAULTED it stays until the reply has been sent. -/
def resetRule (tag : Byte) (p : List Byte) (s : State) : State :=
  if s.link.op = .faulted then
    s.answerTaken .reset tag p { statusReply CmdKind.reset.code tag .ok [] with entersLoading := true }
  else ((s.answerNow .reset tag p .ok []).setOp .closing).discardPreparation.abortWalk

/-- RESET (R11). -/
def execReset (tag : Byte) (p : List Byte) (s : State) : Outcome State Fault Refusal :=
  .next (s.receiveFrame .reset tag p resetRule)

end Sys2Proof.Machine
end

