-- ==== Sys2Proof/Machine/Credit.lean ====
section
/-! DEFINITION. The family of the credit commands: GRANT, SET HORIZON, WITHDRAW, RESUME (R42 to R51). Their arithmetic
stands in Flags.lean and Verdicts.lean. -/

namespace Sys2Proof.Machine

open Host (Outcome)

/-- The rule of a taken GRANT (R42). -/
def grantRule (tag : Byte) (p : List Byte) (s : State) : State := s.requestRule .grant tag p

/-- GRANT (R42 to R45). -/
def execGrant (tag : Byte) (p : List Byte) (s : State) : Outcome State Fault Refusal :=
  .next (s.receiveFrame .grant tag p grantRule)

/-- The rule of a taken SET HORIZON (R46). -/
def setHorizonRule (tag : Byte) (p : List Byte) (s : State) : State := s.requestRule .setHorizon tag p

/-- SET HORIZON (R46, R47). -/
def execSetHorizon (tag : Byte) (p : List Byte) (s : State) : Outcome State Fault Refusal :=
  .next (s.receiveFrame .setHorizon tag p setHorizonRule)

/-- The rule of a taken WITHDRAW (R48). -/
def withdrawRule (tag : Byte) (p : List Byte) (s : State) : State := s.requestRule .withdraw tag p

/-- WITHDRAW (R48, R49). -/
def execWithdraw (tag : Byte) (p : List Byte) (s : State) : Outcome State Fault Refusal :=
  .next (s.receiveFrame .withdraw tag p withdrawRule)

/-- The rule of a taken RESUME (R50). -/
def resumeRule (tag : Byte) (p : List Byte) (s : State) : State := s.requestRule .resume tag p

/-- RESUME (R50, R51). -/
def execResume (tag : Byte) (p : List Byte) (s : State) : Outcome State Fault Refusal :=
  .next (s.receiveFrame .resume tag p resumeRule)

end Sys2Proof.Machine
end

