-- ==== Sys2Proof/Machine/Grace.lean ====
section
/-! DEFINITION. The family of the district grace: the walk's own steps, and the commands GRACE and GRACE ABORT
(R60 to R68). -/

namespace Sys2Proof.Machine

open Host (Outcome)

/-- The walker examines the record at the next index: a record that qualifies becomes the record in hand, any other is
passed over and finished (R62). -/
def State.examineNext (s : State) : State :=
  match s.walk with
  | some w =>
    if w.inHand then s
    else if qualifies s.clock.dh w.number w.scope (s.kit w.next) then s.setWalk (some { w with inHand := true })
    else s.finishIndex w false
  | none => s

/-- GRACE_EXAMINE (R62). -/
def execGraceExamine (s : State) : Outcome State Fault Refusal :=
  .next (if s.live then s.examineNext else s)

/-- GRACE_RECKONING (R63): the record in hand is reckoned once the dirty queue can take its request. -/
def execGraceReckoning (s : State) : Outcome State Fault Refusal :=
  .next (if s.live then s.tryAccept .walker else s)

/-- A figure of a GRACE is out of range (R60, test 1). -/
def graceOutOfRange (p : List Byte) : Bool :=
  let n := field p 0 1
  let g := field p 1 2
  n < 1 || 255 < n || g < 1 || 720 < g || 720 < field p 3 2

/-- The walk a GRACE starts (R60, R61). -/
def startedWalk (p : List Byte) : Walk where
  number := field p 0 1
  hours := field p 1 2
  scope := field p 3 2
  next := 0
  changed := 0
  inHand := false
  abort := false

/-- The rule of a taken GRACE (R60). -/
def graceRule (tag : Byte) (p : List Byte) (s : State) : State :=
  if graceOutOfRange p then s.answerNow .grace tag p .range []
  else match s.walk with
    | some w => s.answerNow .grace tag p .walkBusy (be1 w.number)
    | none => (s.setWalk (some (startedWalk p))).answerNow .grace tag p .ok (be1 (field p 0 1) ++ be3 s.clock.dh)

/-- GRACE (R60). -/
def execGrace (tag : Byte) (p : List Byte) (s : State) : Outcome State Fault Refusal :=
  .next (s.receiveFrame .grace tag p graceRule)

/-- The rule of a taken GRACE ABORT (R67). -/
def graceAbortRule (tag : Byte) (p : List Byte) (s : State) : State :=
  match s.walk with
  | none => s.answerNow .graceAbort tag p .noWalk []
  | some _ => (s.answerNow .graceAbort tag p .ok []).abortWalk

/-- GRACE ABORT (R67). -/
def execGraceAbort (tag : Byte) (p : List Byte) (s : State) : Outcome State Fault Refusal :=
  .next (s.receiveFrame .graceAbort tag p graceAbortRule)

end Sys2Proof.Machine
end

