-- ==== Sys2Proof/Machine/Roster.lean ====
section
/-! DEFINITION. The family of the roster commands and MOVE: ENROL, ENROL BLOCK, RETIRE, RESTORE, READ KIT, MOVE (R26
to R34, R131, R132), and the reckoning of a command that waits (R41). -/

namespace Sys2Proof.Machine

open Host (Outcome)

/-- The rule of a taken ENROL (R27). -/
def enrolRule (tag : Byte) (p : List Byte) (s : State) : State := s.requestRule .enrol tag p

/-- ENROL (R27). -/
def execEnrol (tag : Byte) (p : List Byte) (s : State) : Outcome State Fault Refusal :=
  .next (s.receiveFrame .enrol tag p enrolRule)

/-- The rule of a taken ENROL BLOCK (R29): a count outside `1 .. 20` enrols nothing; otherwise the first record's
request is made, and each later one when the one before it was applied. -/
def enrolBlockRule (tag : Byte) (p : List Byte) (s : State) : State :=
  if field p 2 1 < 1 ∨ 20 < field p 2 1 then s.answerNow .enrolBlock tag p .range []
  else s.requestRule .enrolBlock tag p

/-- ENROL BLOCK (R29). -/
def execEnrolBlock (tag : Byte) (p : List Byte) (s : State) : Outcome State Fault Refusal :=
  .next (s.receiveFrame .enrolBlock tag p enrolBlockRule)

/-- The rule of a taken RETIRE (R31). -/
def retireRule (tag : Byte) (p : List Byte) (s : State) : State := s.requestRule .retire tag p

/-- RETIRE (R31). -/
def execRetire (tag : Byte) (p : List Byte) (s : State) : Outcome State Fault Refusal :=
  .next (s.receiveFrame .retire tag p retireRule)

/-- The rule of a taken RESTORE (R33). -/
def restoreRule (tag : Byte) (p : List Byte) (s : State) : State := s.requestRule .restore tag p

/-- RESTORE (R33). -/
def execRestore (tag : Byte) (p : List Byte) (s : State) : Outcome State Fault Refusal :=
  .next (s.receiveFrame .restore tag p restoreRule)

/-- The rule of a taken READ KIT (R34). -/
def readKitRule (tag : Byte) (p : List Byte) (s : State) : State :=
  let k := kitArg p
  if rosterSize ≤ k then s.answerNow .readKit tag p .noKit []
  else s.answerNow .readKit tag p .ok (readKitBody (s.kit k) (s.unsaved k))

/-- READ KIT (R34). -/
def execReadKit (tag : Byte) (p : List Byte) (s : State) : Outcome State Fault Refusal :=
  .next (s.receiveFrame .readKit tag p readKitRule)

/-- The rule of a taken MOVE (R131). -/
def moveRule (tag : Byte) (p : List Byte) (s : State) : State := s.requestRule .move tag p

/-- MOVE (R131, R132). -/
def execMove (tag : Byte) (p : List Byte) (s : State) : Outcome State Fault Refusal :=
  .next (s.receiveFrame .move tag p moveRule)

/-- COMMAND_RECKONING (R41): the command in hand is reckoned once the dirty queue can take its request. -/
def execCommandReckoning (s : State) : Outcome State Fault Refusal :=
  .next (if s.live then s.tryAccept .link else s)

end Sys2Proof.Machine
end

