-- ==== Sys2Proof/Machine/Line.lean ====
section
/-! DEFINITION. The family of the station link's line: bytes, rejected frames, the gap, frames of an unknown kind, the
end of a reply, and the NOTE pulse (R156 to R163, R171). -/

namespace Sys2Proof.Machine

open Host (Outcome)

/-! ### Rejections (R158, R159) -/

/-- A reject reply (R159). -/
def rejectReply (r : RejectReason) : Reply where
  kind := rejectKind
  tag := 0
  payload := be1 (rejectCode r)
  entersLoading := false

/-- A frame is rejected: the receiver is WAITING, LINK REJECTS rises by 1, once, and a reject reply is made unless it
would take the last free place of the reply list (R158, R159, R162). -/
def State.rejectFrame (r : RejectReason) (s : State) : State :=
  let s := (s.onLink fun l => { l with receiver := .waiting }).raise .linkRejects
  if s.link.replies.length + 1 < replyCapacity then s.pushReply (rejectReply r) else s

/-- LINK_FRAME_REJECT (R159). A byte error in WAITING rejects nothing: the byte is discarded without count (R158). -/
def execLinkFrameReject (r : RejectReason) (s : State) : Outcome State Fault Refusal :=
  .next (
    if s.live && !(r == .byteError && s.link.receiver == .waiting) then s.rejectFrame r else s)

/-- LINK_GAP_EXPIRY (R158): a frame partly received is rejected for GAP; the 10 ms are counted in reference clock
periods. -/
def execLinkGapExpiry (s : State) : Outcome State Fault Refusal :=
  .next (if s.clocked && s.link.receiver != .waiting then s.rejectFrame .gap else s)

/-! ### Frames whose kind names no command (R160, test 3) -/

/-- A complete, good frame of a kind that names no command: BUSY with a command in hand, and UNKNOWN otherwise. -/
def State.receiveUnknown (kind tag : Byte) (s : State) : State :=
  if s.live then
    let s := s.onLink fun l => { l with receiver := .waiting }
    s.answerUntaken (statusReply kind tag (if s.link.hand.isSome then .busy else .unknown) [])
  else s

/-- UNKNOWN_KIND_FRAME (R160). -/
def execUnknownKindFrame (kind tag : Byte) (s : State) : Outcome State Fault Refusal :=
  .next (s.receiveUnknown kind tag)

/-! ### Bytes (R158) -/

/-- The rule of each command. -/
def ruleOf : CmdKind → Byte → List Byte → State → State
  | .identify => identifyRule
  | .status => statusRule
  | .configure => configureRule
  | .loadPattern => loadPatternRule
  | .saveSettings => saveSettingsRule
  | .setClock => setClockRule
  | .start => startRule
  | .stop => stopRule
  | .reset => resetRule
  | .enrol => enrolRule
  | .enrolBlock => enrolBlockRule
  | .retire => retireRule
  | .restore => restoreRule
  | .readKit => readKitRule
  | .grant => grantRule
  | .setHorizon => setHorizonRule
  | .withdraw => withdrawRule
  | .resume => resumeRule
  | .move => moveRule
  | .grace => graceRule
  | .graceAbort => graceAbortRule
  | .fetchNotices => fetchNoticesRule
  | .counters => countersRule

/-- A frame whose check was received: the body is the kind, the tag and the payload (R157, R160). -/
def State.frameChecked (n : Nat) (body check : List Byte) (s : State) : State :=
  if crcBytes (be1 n ++ body) = check then
    match body with
    | kind :: tag :: payload =>
      match CmdKind.ofCode kind with
      | some k => s.receiveFrame k tag payload (ruleOf k)
      | none => s.receiveUnknown kind tag
    | _ => s.rejectFrame .length
  else s.rejectFrame .check

/-- A good byte arrives on the station link (R158). Its last byte completes the frame. -/
def State.takeLinkByte (b : Byte) (s : State) : State :=
  let goTo (r : Receiver) : State := s.onLink fun l => { l with receiver := r }
  match s.link.receiver with
  | .waiting => if b = 0xA7 then goTo .length else s
  | .length => if b.toNat < 2 then s.rejectFrame .length else goTo (.body b.toNat [])
  | .body n got =>
    let got := got ++ [b]
    if got.length < n then goTo (.body n got) else goTo (.check n got none)
  | .check n got none => goTo (.check n got (some b))
  | .check n got (some high) => s.frameChecked n got [high, b]

/-- LINK_BYTE_ARRIVAL (R158). -/
def execLinkByteArrival (b : Byte) (s : State) : Outcome State Fault Refusal :=
  .next (if s.live then s.takeLinkByte b else s)

/-! ### Replies and NOTE (R11, R162, R163, R171) -/

/-- The reply being sent has left the line. In FAULTED the end of a RESET reply takes the part to LOADING, and the
replies still waiting are discarded (R11, R163); otherwise the next reply begins (R162). -/
def State.takeReplySent (speed : Bool) (s : State) : State :=
  match s.link.replies with
  | [] => s
  | r :: rest =>
    if r.entersLoading && s.link.op == .faulted then s.enterLoading speed []
    else s.onLink fun l => { l with replies := rest }

/-- REPLY_SENT (R162). -/
def execReplySent (speed : Bool) (s : State) : Outcome State Fault Refusal :=
  .next (if s.live then s.takeReplySent speed else s)

/-- NOTE_PULSE_END (R171): the pulse runs out, and NOTE follows the queue again; its 1 ms is counted in reference clock
periods. -/
def execNotePulseEnd (s : State) : Outcome State Fault Refusal :=
  .next (if s.clocked then s.onLink fun l => { l with pulse := false } else s)

end Sys2Proof.Machine
end

