-- ==== Sys2Proof/Machine/Power.lean ====
section
/-! DEFINITION. The family of power, reset pin and reference clock, and the entry to LOADING from CLOSING (R1, R2, R8,
R12, R149, R163). -/

namespace Sys2Proof.Machine

open Host (Outcome)

/-- Power is present or gone. -/
def State.setPower (on : Bool) (s : State) : State := s.onPins fun p => { p with power := on }

/-- The reset pin is asserted or not. -/
def State.setResetPin (asserted : Bool) (s : State) : State := s.onPins fun p => { p with resetPin := asserted }

/-- POWER_UP (R8): every block takes its reset value and the part enters LOADING; with the reset pin asserted it is held
there until the pin is deasserted. -/
def execPowerUp (speed : Bool) (s : State) : Outcome State Fault Refusal :=
  .next ((s.setPower true).enterLoading speed [])

/-- POWER_LOSS (R149): a write in progress ends wherever it stands, and the part is dead until power-up. -/
def execPowerLoss (tear : BitVec 64) (s : State) : Outcome State Fault Refusal :=
  .next ((s.cutWrite tear).blank.setPower false)

/-- RESET_PIN_ASSERTED (R8, R149): every block is held at its reset value, and what was in flight is abandoned. -/
def execResetPinAsserted (tear : BitVec 64) (s : State) : Outcome State Fault Refusal :=
  .next ((s.cutWrite tear).blank.setResetPin true)

/-- RESET_PIN_DEASSERTED (R8): a powered part enters LOADING from reset values and samples SPEED. -/
def execResetPinDeasserted (speed : Bool) (s : State) : Outcome State Fault Refusal :=
  .next (
    if s.pins.resetPin then
      if s.pins.power then (s.setResetPin false).enterLoading speed [] else s.setResetPin false
    else s)

/-- REFERENCE_CLOCK_STOPS (R2): no event is given and every counted limit stands still. -/
def execReferenceClockStops (s : State) : Outcome State Fault Refusal :=
  .next (s.onPins fun p => { p with refStopped := true })

/-- REFERENCE_CLOCK_RETURNS (R2): the timings resume from the point they had reached. -/
def execReferenceClockReturns (s : State) : Outcome State Fault Refusal :=
  .next (s.onPins fun p => { p with refStopped := false })

/-- The conditions at which the part leaves CLOSING, all at once (R12): the dirty queue is empty, no store write is in
progress, no burst is on air, the framer searches no reply window, and the receive FIFO holds no frame. By then the rolls
of the bursts sent before have closed, and the walk that RESET found has ended (R11, R68; assumption 14). -/
def State.drained (s : State) : Bool :=
  s.store.queue.isEmpty && s.store.mode == .idle && s.builder.onAir.isNone && s.framer.window.isNone &&
    s.framer.fifo.isEmpty && s.builder.rolls.isEmpty && s.walk.isNone

/-- CLOSING_DRAIN_COMPLETE (R12, R163): the part enters LOADING; a reply being sent is sent to its end. -/
def execClosingDrainComplete (speed : Bool) (s : State) : Outcome State Fault Refusal :=
  .next (
    if s.live && s.link.op == .closing && s.drained then s.enterLoading speed (s.link.replies.take 1) else s)

end Sys2Proof.Machine
end

