-- ==== Sys2Proof/Machine/Receipts.lean ====
section
/-! DEFINITION. The family of the receipt handler: handling a frame, the completion of a move and the withdrawal on
tamper (R115 to R125, R136, R137, R53). -/

namespace Sys2Proof.Machine

open Host (Outcome)

/-! ### The tests of a frame (R116, R117) -/

/-- The open roll a frame's tag names (R116). -/
def State.rollOf (s : State) (f : Frame) : Option Roll := s.builder.rolls.find? fun r => f.roll = some r.id

/-- The outcome of the four tests of a frame, in their order. -/
inductive Judged where
  | stray
  | foreign
  | badCheck (kit : Nat)
  | accepted (roll : Roll) (kit : Nat) (r : KitRec)
deriving DecidableEq, Repr

/-- The tests of R116 and R117, in order; the first that decides the frame ends them. -/
def State.judge (s : State) (f : Frame) : Judged :=
  match s.rollOf f with
  | none => .stray
  | some roll =>
    if receiptDistrict f.bytes != s.settings.district then .foreign
    else
      let k := receiptKit f.bytes
      match if f.position = 0 then none else roll.positions[f.position - 1]?, s.kit k with
      | some p, .enrolled r =>
        if p.kit != k then .stray
        else if receiptGood r.code f.bytes then .accepted roll k r else .badCheck k
      | _, _ => .stray

/-! ### An accepted receipt (R118 to R123) -/

/-- The position a receipt answers is marked (R118). -/
def markAnswered (id position : Nat) (rolls : List Roll) : List Roll :=
  rolls.map fun r =>
    if r.id = id then { r with positions := r.positions.modify (position - 1) fun p => { p with answered := true } } else r

/-- The tamper run after a receipt (R121). -/
def tamperAfter (lid : Bool) (run : Nat) : Nat := if lid then satSucc 15 run else 0

/-- The rise takes the tamper run from below the mark to the mark (R121). -/
def tamperHit (g : Settings) (lid : Bool) (run : Nat) : Bool :=
  0 < g.tamperMark && run < g.tamperMark && tamperAfter lid run == g.tamperMark

/-- The contact fields an accepted receipt sets, the tamper run among them (R118, R121). -/
def heardRec (f : Frame) (r : KitRec) : KitRec :=
  let st := receiptStatus f.bytes
  { r with
    missed := 0
    silentReported := false
    lastHeard := some f.cycle
    lastStatus := some st
    tamper := tamperAfter st.lid r.tamper }

/-- A record after a receipt that reads behind (R120). -/
def behindRec (held : Issue) (r : KitRec) : KitRec :=
  { r with
    confirmed := some held
    settled := false
    sends := if r.settled then 0 else r.sends }

/-- What the issue comparison of an accepted receipt does (R119, R120). -/
def State.applyReading (k : Nat) (held : Issue) (r : KitRec) (s : State) : State :=
  match readIssue held r.issue with
  | .current =>
    let s := s.raise .confirmed
    if r.settled then s.putKit k (.enrolled { r with confirmed := some r.issue }) else s.settleKit k r true
  | .behind => (s.putKit k (.enrolled (behindRec held r))).raise .behind
  | .ahead => ((s.putKit k (.enrolled r)).raise .ahead).post (.anomaly held r.issue) (some k)

/-- The receipt gives evidence that a pending move is done (R124, R136). -/
def moveEvidence (roll : Roll) (held : Issue) (r : KitRec) : Bool :=
  match r.moveIssue with
  | some mi => roll.slot == r.ordered || (atOrAfter held mi && readIssue held r.issue != .ahead)
  | none => false

/-- The requests an accepted receipt gives rise to, in their order (R122, R124); in FAULTED there are none (R125). -/
def State.receiptRequests (roll : Roll) (k : Nat) (f : Frame) (r : KitRec) (s : State) : List HandlerReq :=
  if s.link.op = .faulted then []
  else
    (if moveEvidence roll (receiptIssue f.bytes) r then [.completeMove k] else []) ++
    (if tamperHit s.settings (receiptStatus f.bytes).lid r.tamper && s.settings.autoHold && r.active
      then [.tamperHold k] else [])

/-- The act of an accepted receipt: the position is answered, the contact fields are set, the tamper, usage and issue
rules are applied in that order, and the requests that wait are made (R118 to R124). -/
def State.acceptReceipt (roll : Roll) (k : Nat) (f : Frame) (r : KitRec) (s : State) : State :=
  let st := receiptStatus f.bytes
  let r' := heardRec f r
  let reqs := s.receiptRequests roll k f r
  let s := s.onBuilder fun b => { b with rolls := markAnswered roll.id f.position b.rolls }
  let s := if tamperHit s.settings st.lid r.tamper then s.post (.tamper r'.tamper st) (some k) else s
  let s := if s.settings.usageNotices then s.post (.usage (receiptUsage f.bytes) st) (some k) else s
  let s := s.applyReading k (receiptIssue f.bytes) r'
  match reqs with
  | [] => s.finishFrame
  | q :: rest => s.setHandler (.stalled q rest.head?)

/-- The idle handler takes the head frame and decides it in one act (R115). -/
def State.handleFrame (f : Frame) (s : State) : State :=
  match s.judge f with
  | .stray => (s.raise .stray).finishFrame
  | .foreign =>
    let s := s.raise .foreign
    let k := receiptKit f.bytes
    let s :=
      if s.settings.foreignPass then
        s.post (.foreign (receiptDistrict f.bytes) f.slot f.position) (if k < rosterSize then some k else none)
      else s
    s.finishFrame
  | .badCheck k =>
    let s := s.raise .badCheck
    let s :=
      if s.settings.saveBad then s.post (.badReply f.slot f.position (receiptIssue f.bytes)) (some k) else s
    s.finishFrame
  | .accepted roll k r => s.acceptReceipt roll k f r

/-- RECEIPT_HANDLE (R115): with the handler IDLE and a frame waiting; the part handles none in LOADING. -/
def execReceiptHandle (s : State) : Outcome State Fault Refusal :=
  .next (
    match s.handler, s.framer.fifo with
    | .idle, f :: _ => if s.live && s.link.op != .loading then s.handleFrame f else s
    | _, _ => s)

/-! ### The requests that wait (R124) -/

/-- MOVE_COMPLETION (R137): the completion the handler waits for is reckoned once the dirty queue can take it. -/
def execMoveCompletion (s : State) : Outcome State Fault Refusal :=
  .next (
    match s.handler with
    | .stalled (.completeMove _) _ => if s.live then s.tryAccept .handler else s
    | _ => s)

/-- WITHDRAWAL_ON_TAMPER (R53): the withdrawal the handler waits for is reckoned once the dirty queue can take it. -/
def execWithdrawalOnTamper (s : State) : Outcome State Fault Refusal :=
  .next (
    match s.handler with
    | .stalled (.tamperHold _) _ => if s.live then s.tryAccept .handler else s
    | _ => s)

end Sys2Proof.Machine
end

