-- ==== Sys2Proof/Machine/Slots.lean ====
section
/-! DEFINITION. The family of time events: slot start, downlink window end, reply sub-window start, reply window end
and hour tick, and the ends of preparations and bursts (R2 to R4, R9, R92, R97, R100, R107, R110, R126). Each acts
while the district clock gives out events; otherwise the event does not occur and nothing changes (assumption 9). -/

namespace Sys2Proof.Machine

open Host (Outcome)

/-! ### Slot start (R97) -/

/-- The clock as a slot start finds it. After a reply window end it names the slot already, but for an hour tick still
due; taken before the reply window end of the slot before, the slot start carries the clock over itself (R2, R3). -/
def Clock.atSlotStart (c : Clock) : Clock :=
  if c.timer = .boundary then { (if c.tickDue then c.advance else c) with timer := .downlink }
  else { c.advance with timer := .early }

/-- What the builder does at a slot start: it sends the READY burst of the slot if the part is ON AIR, abandons a PREPARING
one of the slot as a missed slot, or sends nothing (R97). -/
def State.builderAtSlotStart (s : State) : State :=
  let targets (b : Burst) := b.slot == s.clock.slot
  match s.builder.ready.filter (fun b => targets b && s.link.op == .onAir), s.builder.preparing.filter targets with
  | some b, _ => s.goOnAir b
  | none, some _ => (s.onBuilder fun q => { q with preparing := none }).raise .missedSlots
  | none, none => s

/-- The slot start is taken: the reply window of the slot is to be searched if the part is ON AIR with the uplink
option on (R107), and the builder acts (R97). -/
def State.takeSlotStart (s : State) : State :=
  let s := s.onClock Clock.atSlotStart
  let s := s.onBuilder fun q => { q with slotRoll := none }
  let s := s.builderAtSlotStart
  let s := s.onScheduler fun q =>
    { q with preparedFor := if q.preparedFor = some s.clock.slot then none else q.preparedFor }
  s.onFramer fun f =>
    { f with armed :=
        if s.link.op = .onAir ∧ s.settings.uplink then some (s.clock.slot, s.clock.absCycle) else none }

/-- SLOT_START (R97). -/
def execSlotStart (s : State) : Outcome State Fault Refusal :=
  .next (if s.timed then s.takeSlotStart else s)

/-! ### Downlink window end (R9) -/

/-- At the downlink window end the reply window begins; ON AIR a preparation for the next slot begins, unless one was
made since START (R9). -/
def State.takeDownlinkWindowEnd (s : State) : State :=
  let s := s.onClock fun c => { c with timer := .reply 1 }
  if s.link.op = .onAir ∧ s.scheduler.preparedFor ≠ some s.clock.advance.slot then s.beginPreparation else s

/-- DOWNLINK_WINDOW_END (R9). -/
def execDownlinkWindowEnd (s : State) : Outcome State Fault Refusal :=
  .next (if s.timed then s.takeDownlinkWindowEnd else s)

/-! ### Reply sub-windows (R107, R108, R110) -/

/-- The framer is taking a frame. -/
def Window.isTaking (w : Window) : Bool :=
  match w.mode with
  | .listening (.taking _) => true
  | _ => false

/-- A sub-window closes: a frame still being taken is short (R110). -/
def State.closeSubWindow (s : State) : State :=
  match s.framer.window with
  | some w => if w.isTaking then s.raise .short else s
  | none => s

/-- The framer in the next sub-window: SEARCHING with nothing taken, unless it is DROPPING (R108). -/
def Window.startSub (k : Nat) (w : Window) : Window :=
  { w with
    sub := k
    mode := match w.mode with
      | .listening _ => .listening .searching
      | .dropping => .dropping }

/-- A reply sub-window starts: the one before it closes, and the framer searches anew. A window to be searched is
entered LISTENING (R107, R110). -/
def State.takeSubWindowStart (k : Nat) (s : State) : State :=
  let s := s.closeSubWindow.onClock fun c => { c with timer := .reply k }
  s.onFramer fun f =>
    match f.armed with
    | some (slot, cycle) =>
      { f with
        armed := none
        window := some { slot := slot, cycle := cycle, roll := s.builder.slotRoll, sub := k, mode := .listening .searching } }
    | none => { f with window := f.window.map (Window.startSub k) }

/-- REPLY_SUB_WINDOW_START (R110). -/
def execReplySubWindowStart (k : Nat) (s : State) : Outcome State Fault Refusal :=
  .next (if s.timed then s.takeSubWindowStart k else s)

/-! ### Reply window end (R3, R110, R126) -/

/-- The clock at a reply window end. It moves to the next slot, but where this brings an hour tick the slot, the cycle
and the district hour wait to take effect together (R3, R4). After a slot start that was taken first it has moved
already. -/
def Clock.atReplyWindowEnd (c : Clock) : Clock :=
  if c.timer = .early then { c with timer := .downlink }
  else
    let c := if c.tickDue then c.advance else c
    if c.atHourEnd then { c with tickDue := true, timer := .boundary } else { c.advance with timer := .boundary }

/-- The rolls after a reply window end: those of the ending slot and of slots before it have their window ended; the
roll of a slot start that was taken first has not (R103, R126). -/
def endWindows (spare : Option Nat) (rolls : List Roll) : List Roll :=
  rolls.map fun r => if spare = some r.id then r else { r with windowEnded := true }

/-- The reply window ends: sub-window 6 closes, the framer holds no window, the clock moves on, and the rolls with no
frame left in the FIFO close (R3, R107, R110, R126). -/
def State.takeReplyWindowEnd (s : State) : State :=
  let early := s.clock.timer == .early
  let s := s.closeSubWindow
  let s := s.onFramer fun f => { f with window := none, armed := if early then f.armed else none }
  let s := s.onBuilder fun q => { q with rolls := endWindows (if early then q.slotRoll else none) q.rolls }
  (s.onClock Clock.atReplyWindowEnd).closeDone

/-- REPLY_WINDOW_END (R3). -/
def execReplyWindowEnd (s : State) : Outcome State Fault Refusal :=
  .next (if s.timed then s.takeReplyWindowEnd else s)

/-! ### Hour tick (R4) -/

/-- The hour tick that is due: slot and cycle become 0 and the district hour rises by 1, or holds at its maximum and
sets the end-of-count flag, all together (R3, R4). -/
def Clock.atHourTick (c : Clock) : Clock := if c.tickDue then c.advance else c

/-- HOUR_TICK (R4). -/
def execHourTick (s : State) : Outcome State Fault Refusal :=
  .next (if s.timed then s.onClock Clock.atHourTick else s)

/-! ### Ends of preparations and bursts (R92, R99, R100) -/

/-- The preparing buffer becomes READY with its burst encoded (R92, R180). -/
def State.takePreparationComplete (s : State) : State :=
  match s.builder.preparing with
  | some b => s.onBuilder fun q => { q with preparing := none, ready := some { b with encoded := b.bytes } }
  | none => s

/-- PREPARATION_COMPLETE (R92). -/
def execPreparationComplete (s : State) : Outcome State Fault Refusal :=
  .next (if s.live then s.takePreparationComplete else s)

/-- BURST_COMPLETE (R100): the buffer on air becomes EMPTY, and KEY is deasserted with it (R99). -/
def execBurstComplete (s : State) : Outcome State Fault Refusal :=
  .next (if s.clocked then s.onBuilder fun q => { q with onAir := none } else s)

end Sys2Proof.Machine
end

