-- ==== Sys2Proof/Machine/StoreEvents.lean ====
section
/-! DEFINITION. The family of the store controller's events: ends of write attempts and of waits for the memory, and
the reads of the load (R144, R148, R153, R154). -/

namespace Sys2Proof.Machine

open Host (Outcome)

/-! ### The load (R35, R36, R74, R153, R154) -/

/-- A rejected settings block: the defaults come into force and SETTINGS LOST is posted (R153). -/
def State.rejectSettings (reason : Nat) (s : State) : State :=
  ((s.setSettings .default).onScheduler fun q => { q with pattern := defaultPattern }).post (.settingsLost reason) none

/-- A good settings block: each setting and the pattern take the values it holds (R153). -/
def State.acceptSettings (b : List Byte) (s : State) : State :=
  (s.setSettings (settingsOfBytes b)).onScheduler fun q => { q with pattern := patternOfBytes ((b.drop 14).take 16) }

/-- The read of the settings block completes, or the memory was in error for it (R153, R184). -/
def State.loadSettings (read : Option (List Byte)) (s : State) : State :=
  (match read with
    | none => s.rejectSettings 2
    | some b => match blockFault b with
      | some reason => s.rejectSettings reason
      | none => s.acceptSettings b).onStore fun c => { c with mode := .readingKit 0 }

/-- The read of one kit record completes, or the memory was in error for it: the roster sets the record, DAMAGED posts
its notice, and after record 4,095 the part enters STANDBY (R35, R154). -/
def State.loadKit (k : Nat) (read : Option (List Byte)) (s : State) : State :=
  let kit := match read with
    | none => .damaged
    | some b => loadedKit k b
  let s := s.putKit k kit
  let s := if kit = .damaged then s.post .damaged (some k) else s
  if rosterSize ≤ k + 1 then (s.onStore fun c => { c with mode := .idle }).setOp .standby
  else s.onStore fun c => { c with mode := .readingKit (k + 1) }

/-- SETTINGS_BLOCK_READ (R153). -/
def execSettingsBlockRead (r : PortRead) (s : State) : Outcome State Fault Refusal :=
  .next (
    match s.store.mode with
    | .readingSettings => if s.live then s.loadSettings (s.portRead .settings r) else s
    | _ => s)

/-- KIT_RECORD_READ (R154). -/
def execKitRecordRead (r : PortRead) (s : State) : Outcome State Fault Refusal :=
  .next (
    match s.store.mode with
    | .readingKit k => if s.live then s.loadKit k (s.portRead (.kit k) r) else s
    | _ => s)

/-! ### Ends of attempts (R144, R148) -/

/-- The memory is in error for the attempt in progress (R144, R148). -/
def State.attemptInError (left : List Byte) (s : State) : State :=
  match s.store.mode with
  | .writing k _ _ => (s.memoryHolds (.kit k) left).attemptFailed true
  | .saving _ _ => (s.memoryHolds .settings left).attemptFailed true
  | _ => s

/-- The attempt in progress was read back (R148). -/
def State.attemptReadBack (bs : List Byte) (s : State) : State :=
  match s.store.mode with
  | .writing k image _ => s.recordReadBack k image bs
  | .saving image _ => s.settingsReadBack image bs
  | _ => s

/-- The write image of the attempt in progress. -/
def State.writeImage (s : State) : List Byte :=
  match s.store.mode with
  | .writing _ image _ => image
  | .saving image _ => image
  | _ => []

/-- STORE_ATTEMPT_COMPLETE (R148). -/
def execStoreAttemptComplete (e : AttemptEnd) (s : State) : Outcome State Fault Refusal :=
  .next (
    if s.live then
      match e with
      | .good => s.attemptReadBack s.writeImage
      | .readBack bs => s.attemptReadBack bs
      | .inError left => s.attemptInError left
    else s)

/-- The memory is in error for the transaction in progress: a read of the load or an attempt of a write (R144). -/
def State.memoryTimeout (left : List Byte) (s : State) : State :=
  match s.store.mode with
  | .readingSettings => s.loadSettings none
  | .readingKit k => s.loadKit k none
  | _ => s.attemptInError left

/-- STORE_MEMORY_TIMEOUT (R144): the 100 ms are counted in reference clock periods. -/
def execStoreMemoryTimeout (left : List Byte) (s : State) : Outcome State Fault Refusal :=
  .next (if s.clocked then s.memoryTimeout left else s)

end Sys2Proof.Machine
end

