-- ==== Sys2Proof/Machine/Uplink.lean ====
section
/-! DEFINITION. The family of the uplink framer: bytes, byte errors and complete frames (R108 to R112). A byte arrives
while the part is live and its reference clock runs, from which the bit timing comes (R109). -/

namespace Sys2Proof.Machine

open Host (Outcome)

/-- The sub-window state of the framer, when it searches a window in LISTENING. -/
def State.subState (s : State) : Option SubState :=
  match s.framer.window with
  | some { mode := .listening st, .. } => some st
  | _ => none

/-- The framer's window goes to a mode. -/
def State.setMode (m : WindowMode) (s : State) : State :=
  s.onFramer fun f => { f with window := f.window.map fun w => { w with mode := m } }

/-- The frame formed from eleven bytes, with its tag (R111). -/
def Window.frame (w : Window) (bs : List Byte) : Frame :=
  { bytes := bs, slot := w.slot, cycle := w.cycle, position := w.sub, roll := w.roll }

/-- The eleventh byte arrived: the frame joins the FIFO, or it is an overrun and the framer drops the rest of the
window (R111, R112). -/
def State.completeFrame (bs : List Byte) (s : State) : State :=
  match s.framer.window with
  | some w =>
    if s.framer.fifo.length < fifoCapacity then
      (s.onFramer fun f => { f with fifo := f.fifo ++ [w.frame bs] }).setMode (.listening .done)
    else (s.setMode .dropping).raise .overruns
  | none => s

/-- A byte without framing error arrives (R108). -/
def State.takeUplinkByte (b : Byte) (s : State) : State :=
  match s.subState with
  | some .searching => if b = 0x6B then s.setMode (.listening .syncSeen) else s
  | some .syncSeen =>
    if b = 0x91 then s.setMode (.listening (.taking []))
    else if b = 0x6B then s
    else s.setMode (.listening .searching)
  | some (.taking bs) =>
    if bs.length < 10 then s.setMode (.listening (.taking (bs ++ [b]))) else s.completeFrame (bs ++ [b])
  | _ => s

/-- UPLINK_BYTE_ARRIVAL (R108). -/
def execUplinkByteArrival (b : Byte) (s : State) : Outcome State Fault Refusal :=
  .next (if s.clocked then s.takeUplinkByte b else s)

/-- UPLINK_FRAME_COMPLETE (R111): the byte is the eleventh after the sync pattern. -/
def execUplinkFrameComplete (b : Byte) (s : State) : Outcome State Fault Refusal :=
  .next (
    match s.subState with
    | some (.taking bs) => if s.clocked && bs.length == 10 then s.completeFrame (bs ++ [b]) else s
    | _ => s)

/-- A byte with a framing error (R109): the search starts again, or a frame being taken is abandoned as short. -/
def State.takeUplinkError (s : State) : State :=
  match s.subState with
  | some .searching => s
  | some .syncSeen => s.setMode (.listening .searching)
  | some (.taking _) => (s.setMode (.listening .done)).raise .short
  | _ => s

/-- UPLINK_BYTE_ERROR (R109). -/
def execUplinkByteError (s : State) : Outcome State Fault Refusal :=
  .next (if s.clocked then s.takeUplinkError else s)

end Sys2Proof.Machine
end

