-- ==== Sys2Proof/Machine/Dispatch.lean ====
section
/-! DEFINITION. One arm for every command and event of the table, in the table's order. -/

namespace Sys2Proof.Machine

def exec (i : Instr) (s : State) : Host.Outcome State Fault Refusal :=
  match i with
  | .powerUp speed => Sys2Proof.Machine.execPowerUp speed s
  | .resetPinAsserted tear => Sys2Proof.Machine.execResetPinAsserted tear s
  | .resetPinDeasserted speed => Sys2Proof.Machine.execResetPinDeasserted speed s
  | .referenceClockStops => Sys2Proof.Machine.execReferenceClockStops s
  | .referenceClockReturns => Sys2Proof.Machine.execReferenceClockReturns s
  | .slotStart => Sys2Proof.Machine.execSlotStart s
  | .downlinkWindowEnd => Sys2Proof.Machine.execDownlinkWindowEnd s
  | .replySubWindowStart k => Sys2Proof.Machine.execReplySubWindowStart k s
  | .replyWindowEnd => Sys2Proof.Machine.execReplyWindowEnd s
  | .hourTick => Sys2Proof.Machine.execHourTick s
  | .preparationComplete => Sys2Proof.Machine.execPreparationComplete s
  | .burstComplete => Sys2Proof.Machine.execBurstComplete s
  | .uplinkFrameComplete b => Sys2Proof.Machine.execUplinkFrameComplete b s
  | .uplinkByteError => Sys2Proof.Machine.execUplinkByteError s
  | .receiptHandle => Sys2Proof.Machine.execReceiptHandle s
  | .moveCompletion => Sys2Proof.Machine.execMoveCompletion s
  | .withdrawalOnTamper => Sys2Proof.Machine.execWithdrawalOnTamper s
  | .graceExamine => Sys2Proof.Machine.execGraceExamine s
  | .graceReckoning => Sys2Proof.Machine.execGraceReckoning s
  | .commandReckoning => Sys2Proof.Machine.execCommandReckoning s
  | .storeAttemptComplete e => Sys2Proof.Machine.execStoreAttemptComplete e s
  | .storeMemoryTimeout left => Sys2Proof.Machine.execStoreMemoryTimeout left s
  | .settingsBlockRead r => Sys2Proof.Machine.execSettingsBlockRead r s
  | .kitRecordRead r => Sys2Proof.Machine.execKitRecordRead r s
  | .closingDrainComplete speed => Sys2Proof.Machine.execClosingDrainComplete speed s
  | .replySent speed => Sys2Proof.Machine.execReplySent speed s
  | .notePulseEnd => Sys2Proof.Machine.execNotePulseEnd s
  | .linkFrameReject r => Sys2Proof.Machine.execLinkFrameReject r s
  | .linkGapExpiry => Sys2Proof.Machine.execLinkGapExpiry s
  | .unknownKindFrame kind tag => Sys2Proof.Machine.execUnknownKindFrame kind tag s
  | .identify tag payload => Sys2Proof.Machine.execIdentify tag payload s
  | .status tag payload => Sys2Proof.Machine.execStatus tag payload s
  | .configure tag payload => Sys2Proof.Machine.execConfigure tag payload s
  | .loadPattern tag payload => Sys2Proof.Machine.execLoadPattern tag payload s
  | .saveSettings tag payload => Sys2Proof.Machine.execSaveSettings tag payload s
  | .setClock tag payload => Sys2Proof.Machine.execSetClock tag payload s
  | .start tag payload => Sys2Proof.Machine.execStart tag payload s
  | .stop tag payload => Sys2Proof.Machine.execStop tag payload s
  | .reset tag payload => Sys2Proof.Machine.execReset tag payload s
  | .enrol tag payload => Sys2Proof.Machine.execEnrol tag payload s
  | .enrolBlock tag payload => Sys2Proof.Machine.execEnrolBlock tag payload s
  | .retire tag payload => Sys2Proof.Machine.execRetire tag payload s
  | .restore tag payload => Sys2Proof.Machine.execRestore tag payload s
  | .readKit tag payload => Sys2Proof.Machine.execReadKit tag payload s
  | .grant tag payload => Sys2Proof.Machine.execGrant tag payload s
  | .setHorizon tag payload => Sys2Proof.Machine.execSetHorizon tag payload s
  | .withdraw tag payload => Sys2Proof.Machine.execWithdraw tag payload s
  | .resume tag payload => Sys2Proof.Machine.execResume tag payload s
  | .move tag payload => Sys2Proof.Machine.execMove tag payload s
  | .grace tag payload => Sys2Proof.Machine.execGrace tag payload s
  | .graceAbort tag payload => Sys2Proof.Machine.execGraceAbort tag payload s
  | .fetchNotices tag payload => Sys2Proof.Machine.execFetchNotices tag payload s
  | .counters tag payload => Sys2Proof.Machine.execCounters tag payload s
  | .powerLoss tear => Sys2Proof.Machine.execPowerLoss tear s
  | .uplinkByteArrival b => Sys2Proof.Machine.execUplinkByteArrival b s
  | .linkByteArrival b => Sys2Proof.Machine.execLinkByteArrival b s

end Sys2Proof.Machine
end

