-- ==== Sys2Proof/Machine/KitSide.lean ====
section
/-! DEFINITION. What a kit does with a burst, to the extent the part depends on it (R104 to R106). A kit is no part of
the machine's state: it is the other end of the air protocol, and the statements about the protocol need it. -/

namespace Sys2Proof.Machine

/-- What a kit holds, as far as R104 to R106 and R179 name it: its identity, where it listens, its hour count, the
order it last adopted, and the condition it reports. -/
structure RadioKit where
  district : Nat
  number   : Nat
  code     : KitCode
  answers  : Bool
  listen   : Nat
  hour     : Nat
  issue    : Issue
  horizon  : Nat
  held     : Bool
  /-- The status byte it reports: lamp, lid, battery, and the three bits it sets as it likes (R179). -/
  status   : Byte
  usage    : Nat
deriving DecidableEq, Repr

/-- The kit's output runs: below its horizon and not held (R104). -/
def RadioKit.runs (k : RadioKit) : Bool := k.hour < k.horizon && !k.held

/-- The header of a burst is one for this kit: the sync stands, the check agrees, the count is at most 6 (R180), and the
district code is the kit's own (R104). -/
def RadioKit.hears (k : RadioKit) (bs : List Byte) : Bool :=
  bs.take 2 == [0x5A, 0xC6] && crcBytes ((bs.drop 2).take 8) == (bs.drop 10).take 2 && field bs 9 1 % 8 ≤ 6 &&
    field bs 2 2 == k.district

/-- The eleven bytes of the entry at a position `1 ..` of a burst (R179). -/
def entryAt (bs : List Byte) (position : Nat) : List Byte := (bs.drop (12 + 11 * (position - 1))).take 11

/-- An entry is for this kit, with a good check (R105). -/
def RadioKit.accepts (k : RadioKit) (e : List Byte) : Bool :=
  field e 0 2 == k.number && crcBytes (be4 k.code.toNat ++ be2 k.district ++ e.take 9) == e.drop 9

/-- The kit adopts an entry's whole order if its issue is newer than the one held, and nothing otherwise (R105). The new
slot is the one the kit listens in after this reply window. -/
def RadioKit.adopt (k : RadioKit) (e : List Byte) : RadioKit :=
  if newerThan (BitVec.ofNat 16 (field e 2 2)) k.issue then
    { k with issue := BitVec.ofNat 16 (field e 2 2), horizon := field e 4 3, listen := field e 7 1, held := bitAt (field e 8 1) 0 }
  else k

/-- Bytes 0 to 8 of a receipt (R106, R179). -/
def RadioKit.receiptBody (k : RadioKit) : List Byte :=
  be2 k.district ++ be2 k.number ++ be2 k.issue.toNat ++ [k.status] ++ be2 k.usage

/-- The eleven bytes of a receipt after its sync pattern. -/
def RadioKit.receipt (k : RadioKit) : List Byte :=
  k.receiptBody ++ crcBytes (be4 k.code.toNat ++ k.receiptBody)

/-- The thirteen bytes a kit sends: the sync pattern and the receipt (R106). -/
def RadioKit.reply (k : RadioKit) : List Byte := [0x6B, 0x91] ++ k.receipt

/-- The positions of a burst whose entries a kit reads as its own (R104, R105). -/
def RadioKit.positions (k : RadioKit) (bs : List Byte) : List Nat :=
  (List.range (field bs 9 1 % 8)).filterMap fun i => if k.accepts (entryAt bs (i + 1)) then some (i + 1) else none

/-- A kit that listens hears a burst: the hour is set, and the order of its entry is adopted; an answering kit that was
not asked to hold its reply answers in the sub-window of its entry's position (R104 to R106). -/
def RadioKit.hear (k : RadioKit) (bs : List Byte) : RadioKit × Option (Nat × List Byte) :=
  if k.hears bs then
    let k := { k with hour := field bs 4 3 }
    match (k.positions bs).head? with
    | some i =>
      let k := k.adopt (entryAt bs i)
      (k, if k.answers && !bitAt (field bs 9 1) 7 then some (i, k.reply) else none)
    | none => (k, none)
  else (k, none)

end Sys2Proof.Machine
end

