-- ==== Sys2Proof/Safety.lean ====
section
/-! DEFINITION. What counts as a sound state of the part, when a command is taken, and what it is for a step to answer
a frame, to apply a request or to leave a block alone: the terms the statements use. -/

namespace Sys2Proof.Machine

/-! ### Sound states -/

/-- The lists and queues hold no more than the manual allows (R103, R111, R145, R162, R168), and the kept place of the
reply list is free while a command is in hand. -/
def State.withinCapacities (s : State) : Bool :=
  s.store.queue.length ≤ queueCapacity && s.link.notices.length ≤ noticeCapacity && s.link.lost ≤ 255 &&
    s.framer.fifo.length ≤ fifoCapacity && s.builder.rolls.length ≤ rollCapacity &&
    s.link.replies.length + s.link.hand.isSome.toNat ≤ replyCapacity

/-- The clock's counters lie in their ranges (R1). -/
def Clock.inRange (c : Clock) : Bool := c.dh ≤ maxHour && c.cycle ≤ 59 && c.slot ≤ 119

/-- The tables and the memory keep their canonical form: numbers strictly rising, no default entry listed. -/
def State.tablesCanonical (s : State) : Bool :=
  canonical .free s.roster && canonical [] s.scheduler.lists && canonical 0 s.scheduler.auditPtrs &&
    canonical 0 s.scheduler.idle && memoryWf s.store.cells

/-- No index stands in the dirty queue twice (R145). -/
def State.queueOnce (s : State) : Bool := decide s.store.queue.Nodup

/-- The counters lie in their range (R172). -/
def Counters.inRange (c : Counters) : Bool := c.toList.all fun n => n ≤ 65535

/-- Every setting lies in its range (R153). -/
def Settings.inRange (g : Settings) : Bool := g.district ≤ 65535 && (fieldsInRange g g.options).all id

/-- The pattern has its sixteen steps and the pointer names one (R78). -/
def Scheduler.patternWhole (q : Scheduler) : Bool := q.pattern.length == 16 && q.pointer < 16

/-- The fields of an enrolled kit lie in their ranges and agree with one another (R18 to R20). -/
def KitRec.valid (r : KitRec) : Bool :=
  r.listen ≤ 119 && r.ordered ≤ 119 && r.moveIssue.isSome == (r.listen != r.ordered) && r.horizon ≤ maxHour &&
    r.heldHours.getD 0 ≤ maxHeldHours && r.mark ≤ 255 && r.sends ≤ 255 && r.missed ≤ 15 && r.tamper ≤ 15 &&
    (!r.settled || (r.confirmed == some r.issue && !r.notify)) && (!r.moveSent || r.moveIssue.isSome)

/-- The record is FREE, DAMAGED or a valid enrolled kit. -/
def Kit.valid : Kit → Bool
  | .enrolled r => r.valid
  | _ => true

/-- Every record is valid, and what records are made from lies in its range: the clock, the settings and the number of
the walk (R1, R18, R60, R153). -/
def State.recordsValid (s : State) : Prop :=
  s.clock.inRange ∧ s.settings.inRange ∧ (∀ w ∈ s.walk, 1 ≤ w.number ∧ w.number ≤ 255) ∧ ∀ k, (s.kit k).valid

/-- The pending lists are exactly what the records require, and no kit is twice in a list (R72). -/
def State.listsFollow (s : State) : Prop :=
  ∀ slot, (s.list slot).Nodup ∧ ∀ k, k ∈ s.list slot ↔ slot ∈ (s.kit k).requiredSlots

/-- The controller's state is held in the operating states R147 gives it. It is IDLE only with nothing to write; a settings
write is owed or in progress only for the SAVE SETTINGS in hand, and never in CLOSING (R152, R155); and in LOADING nothing
is at work but the load (R8, R61, R115, R145, R163). -/
def State.storeFits (s : State) : Prop :=
  (match s.store.mode with
    | .readingSettings | .readingKit _ => s.link.op = .loading
    | .idle => (s.link.op = .standby ∨ s.link.op = .onAir ∨ s.link.op = .closing) ∧ s.store.queue = [] ∧ s.store.owed = false
    | .writing .. => s.link.op = .standby ∨ s.link.op = .onAir ∨ s.link.op = .closing
    | .saving .. => (s.link.op = .standby ∨ s.link.op = .onAir) ∧ s.store.owed = true
    | .stopped _ => s.link.op = .faulted) ∧
  (s.store.owed = true → s.link.op ≠ .faulted →
    (∃ h, s.link.hand = some h ∧ h.settings = true ∧ h.reckoned = true) ∧ s.link.op ≠ .closing) ∧
  (s.link.op = .loading →
    s.store.queue = [] ∧ s.store.owed = false ∧ s.walk = none ∧ s.link.hand = none ∧ s.handler = .idle)

/-- The changes of operating state the manual knows, with the commands and events that make them (R8 to R13). A frame's
last byte is one of them, for it completes the frame of a command. -/
def changesOp (c : Instr) (before after : OpState) : Prop :=
  match before, after, c with
  | _, .loading, .powerUp _ | _, .loading, .powerLoss _ | _, .loading, .resetPinAsserted _
  | _, .loading, .resetPinDeasserted _ | .closing, .loading, .closingDrainComplete _ | .faulted, .loading, .replySent _
  | .loading, .standby, .kitRecordRead _ | .loading, .standby, .storeMemoryTimeout _
  | .standby, .onAir, .start .. | .standby, .onAir, .linkByteArrival _
  | .onAir, .standby, .stop .. | .onAir, .standby, .linkByteArrival _
  | .standby, .closing, .reset .. | .onAir, .closing, .reset ..
  | .standby, .closing, .linkByteArrival _ | .onAir, .closing, .linkByteArrival _
  | .standby, .faulted, .storeAttemptComplete _ | .onAir, .faulted, .storeAttemptComplete _
  | .closing, .faulted, .storeAttemptComplete _ | .standby, .faulted, .storeMemoryTimeout _
  | .onAir, .faulted, .storeMemoryTimeout _ | .closing, .faulted, .storeMemoryTimeout _ => True
  | _, _, _ => False

/-! ### Commands as frames -/

/-- The command a frame of this kind, tag and payload is. -/
def commandOf (k : CmdKind) (tag : Byte) (p : List Byte) : Instr :=
  match k with
  | .identify => .identify tag p
  | .status => .status tag p
  | .configure => .configure tag p
  | .loadPattern => .loadPattern tag p
  | .saveSettings => .saveSettings tag p
  | .setClock => .setClock tag p
  | .start => .start tag p
  | .stop => .stop tag p
  | .reset => .reset tag p
  | .enrol => .enrol tag p
  | .enrolBlock => .enrolBlock tag p
  | .retire => .retire tag p
  | .restore => .restore tag p
  | .readKit => .readKit tag p
  | .grant => .grant tag p
  | .setHorizon => .setHorizon tag p
  | .withdraw => .withdraw tag p
  | .resume => .resume tag p
  | .move => .move tag p
  | .grace => .grace tag p
  | .graceAbort => .graceAbort tag p
  | .fetchNotices => .fetchNotices tag p
  | .counters => .counters tag p

/-- Carry out a run of commands, stopping where one does not answer a next state. -/
def execAll : List Instr → State → Host.Outcome State Fault Refusal
  | [], s => .next s
  | c :: cs, s =>
    match exec c s with
    | .next t => execAll cs t
    | .fault f => .fault f
    | .refused r => .refused r

/-- The frame passes the tests of R160 and is taken, and passes the two checks of R14. -/
def State.ready (k : CmdKind) (tag : Byte) (p : List Byte) (s : State) : Bool :=
  s.live && s.link.hand.isNone && (s.repeatOf k tag p).isNone && p.length == requiredLength k p &&
    s.link.replies.length < replyCapacity && admits k s.link.op && (!gated k || s.clock.isSet)

/-- The dirty queue can take a request for this index, no other requester waits (R146), and no write is due that has not
started (R147). -/
def State.roomFor (k : Nat) (s : State) : Bool :=
  s.canAccept k && (s.wants .walker).isNone && (s.wants .handler).isNone &&
    (s.store.mode != .idle || (s.store.queue.isEmpty && !s.store.owed))

/-! ### What a step did -/

/-- The reply with a status and content to a frame of this kind and tag (R162, R177). -/
def replyTo (kind : CmdKind) (tag : Byte) (st : Status) (content : List Byte) : Reply where
  kind := kind.code ||| 0x80
  tag := tag
  payload := st.code :: content
  entersLoading := false

/-- The link after the reply of a taken command joined the list: no command is in hand, and the copy is the reply with its
command, or empty for tag 0 (R160 to R162). -/
def Link.replied (k : CmdKind) (tag : Byte) (p : List Byte) (reply : Reply) (l : Link) : Link :=
  { l with
    hand := none
    replies := l.replies ++ [reply]
    copy := if tag = 0 then none
            else some { kind := k, tag := tag, payload := p, reply := { reply with entersLoading := false } } }

/-- A part that took a command and answered it at once, with nothing changed but the link; the receiver is WAITING. -/
def State.answered (k : CmdKind) (tag : Byte) (p : List Byte) (st : Status) (content : List Byte) (s : State) : State :=
  { s with link := { s.link.replied k tag p (replyTo k tag st content) with receiver := .waiting } }

/-- The link after the answer to a frame that is not taken: the answer joins the list, or, where it would take the last free
place of the eight, it is not made and LINK REJECTS rises (R160, R162). -/
def Link.untaken (reply : Reply) (l : Link) : Link :=
  if l.replies.length < 7 then { l with replies := l.replies ++ [reply] }
  else { l with counters := l.counters.raise .linkRejects 1 }

/-- The part after a frame was rejected: the receiver is WAITING, LINK REJECTS rose by 1, and a reject reply with the reason
joined the reply list, unless it would take the last free place of the eight (R158, R159, R162). -/
def State.rejected (r : RejectReason) (s : State) : State :=
  { s with
    link := { s.link with
      counters := s.link.counters.raise .linkRejects 1
      receiver := .waiting
      replies :=
        if s.link.replies.length < 7 then
          s.link.replies ++ [{ kind := 0xFF, tag := 0, payload := be1 (rejectCode r), entersLoading := false }]
        else s.link.replies } }

/-- The part as it enters LOADING: every block at its reset value, the memory as it stands, these pins, and these replies
left to send (R8, R12, R163). -/
def State.asLoading (pins : Pins) (replies : List Reply) (s : State) : State :=
  { State.reset with
    pins := pins
    store := { State.reset.store with cells := s.store.cells }
    link := { State.reset.link with replies := replies }
    pending := s.pending }

/-- The link with this counter raised by 1, stopping at 65,535 (R172). -/
def Link.raised (which : Counter) (l : Link) : Link := { l with counters := l.counters.raise which 1 }

/-- The notice queue and its lost count after a post: the notice joins the tail, or is dropped and counted (R168). -/
def Link.posted (n : Notice) (l : Link) : Link :=
  if l.notices.length < 32 then { l with notices := l.notices ++ [n] } else { l with lost := min (l.lost + 1) 255 }

/-- The two records agree in every persisted field (R18, R19). -/
def KitRec.sameStored (r r' : KitRec) : Prop :=
  r'.code = r.code ∧ r'.answers = r.answers ∧ r'.listen = r.listen ∧ r'.ordered = r.ordered ∧
    r'.moveIssue = r.moveIssue ∧ r'.horizon = r.horizon ∧ r'.heldHours = r.heldHours ∧ r'.issue = r.issue ∧
    r'.mark = r.mark

/-- The two records are of one state and agree in every persisted field. -/
def Kit.sameStored (a b : Kit) : Prop :=
  match a, b with
  | .enrolled r, .enrolled r' => r.sameStored r'
  | _, _ => a = b

/-- Nothing changed but the roster's records, the pending lists and what the dirty queue, the controller's state and the
command in hand are. -/
def State.onlyRecords (s t : State) : Prop :=
  t = { s with
        roster := t.roster
        scheduler := { s.scheduler with lists := t.scheduler.lists }
        store := { s.store with queue := t.store.queue, mode := t.store.mode }
        link := { s.link with receiver := t.link.receiver, hand := t.link.hand } }

/-- Record `k` is now this one and no other record changed; in each list it is required in the kit keeps its place or
joins the tail, it leaves every other list, and no other kit's place changed but for moving up (R17, R73). -/
def State.recordIs (s t : State) (k : Nat) (kit : Kit) : Prop :=
  t.kit k = kit ∧ (∀ j, j ≠ k → t.kit j = s.kit j) ∧
    ∀ slot, t.list slot =
      if slot ∈ kit.requiredSlots then (if k ∈ s.list slot then s.list slot else s.list slot ++ [k])
      else (s.list slot).filter (· != k)

/-- A command was reckoned and its new record applied: the record, its lists and its index in the dirty queue (or its
write started), with the reply held in hand until the write is verified, and everything else as it was (R24, R28, R41). -/
def State.applied (s t : State) (c : CmdKind) (tag : Byte) (p : List Byte) (k : Nat) (kit : Kit) (st : Status)
    (content : List Byte) : Prop :=
  s.onlyRecords t ∧ s.recordIs t k kit ∧ t.unsaved k = true ∧ t.link.receiver = .waiting ∧ t.link.replies = s.link.replies ∧
    ∃ h, t.link.hand = some h ∧ h.kind = c ∧ h.tag = tag ∧ h.payload = p ∧ h.reckoned = true ∧ h.settings = false ∧
      h.status = st ∧ h.content = content ∧ h.awaits.map Prod.fst = [k]

/-! ### The selection act -/

/-- The class of a kit at a selection whose target cycle is `target` (R76). That an answering kit with sends at the budget and
no last sent has none is deduced (assumption 28). -/
def Kit.classAt (g : Settings) (target : Nat) : Kit → Option Machine.Class
  | .enrolled r =>
    if r.sends = 0 then some (if r.unlock then .urgent else .ordinary)
    else if r.sends < g.budget ∨ r.answers = false ∨ g.uplink = false then some .repeated
    else match r.lastSent with
      | some at' => if g.slowInterval ≤ target - at' then some .slow else none
      | none => none
  | _ => none

/-- A kit may be chosen by the audit fill of this slot (R82): settled, answering, of this listen slot, and last sent never or
at least V cycles before. -/
def Kit.auditedAt (g : Settings) (slot target : Nat) : Kit → Bool
  | .enrolled r => r.listen == slot && r.settled && r.answers && match r.lastSent with
    | some at' => decide (g.auditInterval ≤ target - at')
    | none => true
  | _ => false

/-- A selection act for the slot after the current one was taken in `s`, and left this scheduler and this PREPARING buffer
(R79). The pattern pass takes up to sixteen steps from the pointer on, and none once P kits are chosen: a step that is not vetoed
chooses the oldest kit of its class in the slot's list that is not chosen yet, and the pointer moves by the steps taken (R80).
The remainder fill gives the free places to the oldest eligible kits of any class (R81). With V above 0 and the uplink option on,
the audit fill gives what is left to the kits R82 names, in a lap from the audit pointer, which ends after the last kit that
filled the burst, and otherwise where it began. With no kit chosen the burst is header-only if F is above 0 and the idle counter
is at least F, and otherwise there is none and the idle counter rises (R83). A burst carries the slot's time, the reply-hold
flag by the dirty fill, and the orders as they stand (R15, R91 to R93). -/
def State.selects (s : State) (q : Scheduler) (preparing : Option Burst) : Prop :=
  let c := s.clock.advance
  let g := s.settings
  let list := s.list c.slot
  let cls (k : Nat) := (s.kit k).classAt g c.absCycle
  let auditPtr := lookupAt 0 s.scheduler.auditPtrs c.slot
  let numbers := s.roster.map Prod.fst
  let lap := (numbers.filter fun k => auditPtr ≤ k) ++ numbers.filter fun k => k < auditPtr
  let idle := lookupAt 0 s.scheduler.idle c.slot
  q.preparedFor = some c.slot ∧ q.lists = s.scheduler.lists ∧ q.pattern = s.scheduler.pattern ∧
  ∃ steps : List (Option Nat),
    let byPattern := steps.filterMap id
    let pend := byPattern ++ (list.filter fun k => (cls k).isSome ∧ k ∉ byPattern).take (g.packing - byPattern.length)
    let room := g.packing - pend.length
    let audits := if 0 < g.auditInterval ∧ g.uplink = true
      then (lap.filter fun k => (s.kit k).auditedAt g c.slot c.absCycle).take room else []
    steps.length ≤ 16 ∧ (steps.length = 16 ∨ g.packing ≤ byPattern.length) ∧
    q.pointer = (s.scheduler.pointer + steps.length) % 16 ∧
    (∀ i, i < steps.length →
      let before := (steps.take i).filterMap id
      before.length < g.packing ∧ ∃ st, s.scheduler.pattern[(s.scheduler.pointer + i) % 16]? = some st ∧
        steps[i]? = some (if st.veto then none else list.find? fun k => cls k = some st.cls ∧ k ∉ before)) ∧
    (∀ slot, lookupAt 0 q.auditPtrs slot =
      if slot = c.slot ∧ 0 < room ∧ audits.length = room then (audits.getLastD 0 + 1) % 4096
      else lookupAt 0 s.scheduler.auditPtrs slot) ∧
    (pend ++ audits = [] → ¬ (0 < g.refresh ∧ g.refresh ≤ idle) →
      preparing = none ∧ ∀ slot, lookupAt 0 q.idle slot =
        if slot = c.slot then min (idle + 1) 255 else lookupAt 0 s.scheduler.idle slot) ∧
    (pend ++ audits ≠ [] ∨ (0 < g.refresh ∧ g.refresh ≤ idle) → q.idle = s.scheduler.idle ∧
      ∃ b, preparing = some b ∧
        b.slot = c.slot ∧ b.cycle = c.cycle ∧ b.dh = c.dh ∧ b.targetCycle = c.absCycle ∧ b.district = g.district ∧
        b.hold = decide (g.holdMark ≤ s.store.queue.length) ∧
        b.entries.map (fun e => (e.kit, e.audit)) = pend.map (·, false) ++ audits.map (·, true) ∧
        b.entries.length ≤ g.packing ∧ (b.entries.map Entry.kit).Nodup ∧
        ∀ e ∈ b.entries, ∃ r, s.kit e.kit = .enrolled r ∧ e.issue = r.issue ∧ e.horizon = r.horizon ∧
          e.slot = r.ordered ∧ e.held = r.heldHours.isSome ∧ e.code = r.code ∧
          (e.audit = false → e.kit ∈ list ∧ r.settled = false) ∧
          (e.audit = true → r.settled = true ∧ r.answers = true ∧ r.listen = c.slot))

/-! ### Counts at transmission and the close of a roll -/

/-- What the count of an entry finds (R86, R87): stale unless the kit is enrolled with the encoded issue, a counted pending
send for a PENDING kit taken from its list, and another counted entry otherwise. -/
def Kit.countOutcome (e : Entry) : Kit → CountOutcome
  | .enrolled r => if r.issue ≠ e.issue then .stale else if r.settled || e.audit then .other else .pendingSend
  | _ => .stale

/-- A record after the count of an entry at an absolute cycle (R86 to R89): a stale entry changes nothing; a counted one
stamps last sent, clears unlock and sets move sent if a move is pending; a counted pending send raises sends, but for an
answering kit under reply hold, and settles a kit that cannot reply once its sends are at the budget. -/
def KitRec.afterCount (g : Settings) (now : Nat) (hold : Bool) (e : Entry) (r : KitRec) : KitRec :=
  let counted := { r with lastSent := some now, unlock := false, moveSent := r.moveSent || r.moveIssue.isSome }
  let replies := r.answers && g.uplink
  let sends := if replies && hold then r.sends else min (r.sends + 1) 255
  match (Kit.enrolled r).countOutcome e with
  | .stale => r
  | .other => counted
  | .pendingSend =>
    if !replies && g.budget ≤ sends then
      { counted with sends := sends, confirmed := some r.issue, settled := true, notify := false }
    else { counted with sends := sends }

/-- The record of kit `k` after the count of a burst's entries, which name different kits (R85). -/
def Kit.afterCount (g : Settings) (now : Nat) (hold : Bool) (es : List Entry) (k : Nat) (kit : Kit) : Kit :=
  match kit, es.find? (·.kit == k) with
  | .enrolled r, some e => .enrolled (r.afterCount g now hold e)
  | _, _ => kit

/-- The roll's position for an entry (R102): its outcome, and the sends as the count left them. That a kit no longer enrolled
has the figure 0 is the model's choice (assumption 41). -/
def Kit.positionOf (g : Settings) (now : Nat) (hold : Bool) (e : Entry) (kit : Kit) : Position where
  kit := e.kit
  issue := e.issue
  outcome := kit.countOutcome e
  sends := match kit with
    | .enrolled r => (r.afterCount g now hold e).sends
    | _ => 0
  answered := false

/-- The notice the count of an entry posts: DELIVERED, unconfirmed, for a kit that settles by budget with notify set (R89). -/
def Kit.countNotices (g : Settings) (now : Nat) (hold : Bool) (e : Entry) : Kit → List (NoticeKind × Nat)
  | .enrolled r =>
    if !r.settled && (r.afterCount g now hold e).settled && r.notify then [(.delivered r.issue false, e.kit)] else []
  | _ => []

/-- A position is charged at the close of its roll (R128): the uplink option is on, the burst carried no reply hold, the
entry counted, no receipt answered it, and the kit is answering. -/
def KitRec.chargedFor (g : Settings) (roll : Roll) (p : Position) (r : KitRec) : Bool :=
  g.uplink && !roll.hold && p.outcome != .stale && !p.answered && r.answers

/-- The record of kit `k` after the close of a roll that names it at most once (R128): a charge raises the missed run by 1, up
to 15, and at the mark silent reported is set. -/
def Kit.afterClose (g : Settings) (roll : Roll) (k : Nat) (kit : Kit) : Kit :=
  match kit, roll.positions.find? (·.kit == k) with
  | .enrolled r, some p =>
    if r.chargedFor g roll p then
      .enrolled { r with
        missed := min (r.missed + 1) 15
        silentReported := r.silentReported || g.missedMark ≤ min (r.missed + 1) 15 }
    else kit
  | _, _ => kit

/-- The notices the close of a roll posts for a position, against the record as the close finds it: SILENT where the risen
missed run is at the mark and not reported yet, and UNREACHED where a pending send, still of the kit's issue, left the sends
at the budget (R128, R129). That SILENT comes first is the model's choice (assumption 29). -/
def Kit.closeNotices (g : Settings) (roll : Roll) (p : Position) : Kit → List (NoticeKind × Nat)
  | .enrolled r =>
    let run := min (r.missed + 1) 15
    if r.chargedFor g roll p then
      (if g.missedMark ≤ run && !r.silentReported then [(.silent run r.lastHeard, p.kit)] else []) ++
        (if p.outcome == .pendingSend && p.sends == g.budget && !r.settled && r.issue == p.issue
          then [(.unreached p.issue p.sends run, p.kit)] else [])
    else []
  | _ => []

/-- Notices of kits, posted at a time of the clock (R168). -/
def Clock.stamp (c : Clock) (ns : List (NoticeKind × Nat)) : List Notice :=
  ns.map fun n => { kind := n.1, dh := c.dh, cycle := c.cycle, kit := some n.2 }

/-! ### Requests that wait for room -/

/-- The record a waiting request would make if it were reckoned now; none for a refusal, a request that changes nothing, and
one that is passed over (R41, R53, R63, R137). -/
def State.requestMakes (s : State) : Requester → Option Kit
  | .link => s.link.hand.bind fun h =>
    let verdict :=
      if h.kind = .enrolBlock then
        enrolVerdict s.ceiling (blockArgs h.payload h.enrolled) (s.kit (kitArg h.payload + h.enrolled))
      else commandVerdict s h.kind h.payload (s.kit (kitArg h.payload))
    match verdict with
    | .apply kit _ _ => some kit
    | .answer _ _ => none
  | .walker => s.walk.bind fun w =>
    match s.kit w.next with
    | .enrolled r =>
      if qualifies s.clock.dh w.number w.scope (.enrolled r) then
        some (.enrolled (gracedRec s.clock.dh s.ceiling w.hours w.number r).1)
      else none
    | _ => none
  | .handler =>
    match s.handler with
    | .stalled (.completeMove k) _ =>
      match s.kit k with
      | .enrolled r => if r.moveIssue.isSome then some (.enrolled (completedRec r)) else none
      | _ => none
    | .stalled (.tamperHold k) _ =>
      match s.kit k with
      | .enrolled r => if r.active then some (.enrolled (withdrawnRec s.clock.dh false r)) else none
      | _ => none
    | .idle => none

/-- The first waiting requester at or after one in the circle station link, grace walker, receipt handler (R146). -/
def State.firstFrom (s : State) (first : Requester) : Option Requester :=
  (match first with
    | .link => [Requester.link, .walker, .handler]
    | .walker => [.walker, .handler, .link]
    | .handler => [.handler, .link, .walker]).find? fun q => s.wants q ≠ none

/-! ### Memory and lines -/

/-- A line's levels are those of these bytes, each a start bit, eight data bits least significant first and a stop bit, one
byte after another from bit time 0 on, and the stop-bit level after them (R99, R156). -/
def lineSends (bs : List Byte) (level : Nat → Bool) : Prop :=
  (∀ j b, bs[j]? = some b →
    level (10 * j) = false ∧ (∀ i, i < 8 → level (10 * j + 1 + i) = b.getLsbD i) ∧ level (10 * j + 9) = true) ∧
  ∀ i, 10 * bs.length ≤ i → level i = true

/-- Every byte of the store but the run of `n` bytes from `a` reads as before. -/
def State.memoryKeptBut (s t : State) (a n : Nat) : Prop :=
  ∀ x, x < a ∨ a + n ≤ x → readByte t.store.cells x = readByte s.store.cells x

end Sys2Proof.Machine
end

