-- ==== Sys2Proof/WellFormed.lean ====
section
/-! DEFINITION. The commands that can come to the part: operands in the ranges the lines and the memory port allow. -/

namespace Sys2Proof

/-- A payload fits a frame whose length byte is at most 255 (R157). -/
def payloadFits (p : List Byte) : Bool := p.length ≤ 253

/-- The bytes a read of the load brought are as many as were asked for (R144). -/
def PortRead.fits (n : Nat) : PortRead → Bool
  | .bytes bs => bs.length == n
  | _ => true

/-- The bytes of an attempt's place are a record's or the settings block's (R144). -/
def placeFits (bs : List Byte) : Bool := bs.length == 19 || bs.length == 64

/-- The bytes an attempt's end names are a place's. -/
def AttemptEnd.fits : AttemptEnd → Bool
  | .good => true
  | .readBack bs => placeFits bs
  | .inError left => placeFits left

/-- A command as it can come to the part. -/
def Instr.wellFormed : Instr → Bool
  | .replySubWindowStart k => 1 ≤ k && k ≤ 6
  | .storeAttemptComplete e => e.fits
  | .storeMemoryTimeout left => placeFits left
  | .settingsBlockRead r => r.fits 64
  | .kitRecordRead r => r.fits 19
  | .linkFrameReject r => r != .gap
  | .unknownKindFrame kind _ => (Machine.CmdKind.ofCode kind).isNone
  | .identify _ p | .status _ p | .configure _ p | .loadPattern _ p | .saveSettings _ p | .setClock _ p | .start _ p
  | .stop _ p | .reset _ p | .enrol _ p | .enrolBlock _ p | .retire _ p | .restore _ p | .readKit _ p | .grant _ p
  | .setHorizon _ p | .withdraw _ p | .resume _ p | .move _ p | .grace _ p | .graceAbort _ p | .fetchNotices _ p
  | .counters _ p => payloadFits p
  | .powerUp _ | .resetPinAsserted _ | .resetPinDeasserted _ | .referenceClockStops | .referenceClockReturns
  | .slotStart | .downlinkWindowEnd | .replyWindowEnd | .hourTick | .preparationComplete | .burstComplete
  | .uplinkFrameComplete _ | .uplinkByteError | .receiptHandle | .moveCompletion | .withdrawalOnTamper
  | .graceExamine | .graceReckoning | .commandReckoning | .closingDrainComplete _ | .replySent _ | .notePulseEnd
  | .linkGapExpiry | .powerLoss _ | .uplinkByteArrival _ | .linkByteArrival _ => true

end Sys2Proof
end

