-- ==== Sys2Proof/Certificates/Slice0/Obligations.lean ====
section
/-! DEFINITION. The statements for the provers. Each says in its docstring which rules of the manual it rests on. -/

open Sys2Proof Sys2Proof.Machine

/-! ### Steps and reset -/

/-- A step takes the command at the front of the queue and carries it out on the part with the queue's rest; with no
command waiting the part idles, which is the model's choice (assumption 10). -/
def Obligations.StepCarriesOutTheFront : Prop :=
  (∀ (c : Instr) (rest : List Instr) (s : State), s.pending = c :: rest → step s = exec c { s with pending := rest }) ∧
  ∀ s : State, s.pending = [] → step s = .next s

/-- Every command and event finds the part ready to go on, and none touches the queue of those that wait. R174 says that the
part answers whatever the host sends; that an event which cannot occur in a state answers next and leaves it as it is, is the
model's choice (assumption 9), and so is the queue itself, from which the commands come one at a time (assumptions 11 and
38). -/
def Obligations.EveryCommandGoesOnAndKeepsTheQueue : Prop :=
  ∀ (c : Instr) (s : State), ∃ t, exec c s = .next t ∧ t.pending = s.pending

/-- What the part holds right after reset, as far as the manual gives it: LOADING with every block at its reset value
(R1, R8, R35, R61, R74, R78, R82, R83, R91, R99, R102, R107, R111, R115, R145, R146, R158, R161, R168, R171, R172). -/
def Obligations.ResetLeavesThePartLoading : Prop :=
  let s := State.reset
  s.link.op = .loading ∧ s.clock.isSet = false ∧ s.clock.dh = 0 ∧ s.clock.cycle = 0 ∧ s.clock.slot = 0 ∧
  s.clock.endOfCount = false ∧ s.clock.timer = .stopped ∧
  (∀ k, s.kit k = .free) ∧ (∀ slot, s.list slot = []) ∧ s.walk = none ∧
  s.scheduler.pointer = 0 ∧ (∀ slot, lookupAt 0 s.scheduler.auditPtrs slot = 0) ∧
  (∀ slot, lookupAt 0 s.scheduler.idle slot = 0) ∧
  s.builder.preparing = none ∧ s.builder.ready = none ∧ s.builder.onAir = none ∧ s.builder.rolls = [] ∧
  s.framer.window = none ∧ s.framer.fifo = [] ∧ s.handler = .idle ∧
  s.store.queue = [] ∧ s.store.rotation = .link ∧ s.store.mode = .readingSettings ∧
  s.link.receiver = .waiting ∧ s.link.hand = none ∧ s.link.replies = [] ∧ s.link.copy = none ∧
  s.link.notices = [] ∧ s.link.lost = 0 ∧ s.link.counters.toList = List.replicate 16 0 ∧
  s.key = false ∧ s.note = false ∧ s.pending = []

/-- The state after reset meets every invariant stated below. -/
def Obligations.ResetMeetsTheInvariants : Prop :=
  State.reset.withinCapacities = true ∧ State.reset.clock.inRange = true ∧ State.reset.link.counters.inRange = true ∧
  State.reset.tablesCanonical = true ∧ State.reset.queueOnce = true ∧ State.reset.scheduler.patternWhole = true ∧
  State.reset.listsFollow ∧ State.reset.recordsValid ∧ State.reset.storeFits

/-! ### Power, the reset pin, the reference clock, and the entry to LOADING -/

/-- POWER_UP, RESET_PIN_DEASSERTED on a powered part, CLOSING_DRAIN_COMPLETE on a drained part, and REPLY_SENT for the
reply of a RESET taken in FAULTED: each takes the part to LOADING with every block at its reset value, the memory kept,
the line rate sampled, and at most the reply being sent left to send (R8, R11, R12, R156, R163). That the settings and the
pattern are the defaults until the settings block is read is the model's choice (assumption 4); so is what POWER_UP does to a
part that has its supply or whose reset pin is asserted (assumption 33); that a drained part has no open roll and no walk is
the model's reading (assumption 14). -/
def Obligations.EntryToLoadingResetsEveryBlock : Prop :=
  ∀ (s : State) (speed : Bool),
    exec (.powerUp speed) s = .next (s.asLoading { s.pins with power := true, fastLine := speed } []) ∧
    (s.pins.power = true → s.pins.resetPin = true →
      exec (.resetPinDeasserted speed) s = .next (s.asLoading { s.pins with resetPin := false, fastLine := speed } [])) ∧
    (s.pins.power = true → s.pins.resetPin = false → s.link.op = .closing → s.store.queue = [] → s.store.mode = .idle →
      s.builder.onAir = none → s.framer.window = none → s.framer.fifo = [] → s.builder.rolls = [] → s.walk = none →
      exec (.closingDrainComplete speed) s =
        .next (s.asLoading { s.pins with fastLine := speed } (s.link.replies.take 1))) ∧
    ∀ (r : Reply) (rest : List Reply), s.pins.power = true → s.pins.resetPin = false → s.link.op = .faulted →
      s.link.replies = r :: rest → r.entersLoading = true →
      exec (.replySent speed) s = .next (s.asLoading { s.pins with fastLine := speed } [])

/-- RESET_PIN_ASSERTED and POWER_LOSS abandon whatever was in flight: KEY and NOTE are deasserted, the part takes no
bytes, nothing waits to be sent, no record, no roll and no notice is left, the grace walk is gone, the receipt handler holds no
request, and a store write in progress is over: the store controller is READING, as at the start of a load, with nothing queued
and no settings write owed. Every block is at its reset value. The memory keeps every byte but those of a write in progress,
and each of these is as it was or as the write would have left it (R8, R68, R99, R147, R149). That the settings and the pattern
are the defaults then, and that the line rate sampled before is kept, is the model's choice (assumption 4). -/
def Obligations.ResetPinAndPowerLossCutWhatIsInFlight : Prop :=
  ∀ (s : State) (tear : BitVec 64) (c : Instr), c = .resetPinAsserted tear ∨ c = .powerLoss tear →
    ∃ t, exec c s = .next t ∧ t.live = false ∧ t.key = false ∧ t.note = false ∧ t.link = State.reset.link ∧
      t.clock = State.reset.clock ∧ t.roster = [] ∧ t.builder = State.reset.builder ∧ t.framer = State.reset.framer ∧
      t.link.notices = [] ∧ t.walk = none ∧ t.handler = .idle ∧
      t.store.mode = .readingSettings ∧ t.store.queue = [] ∧ t.store.owed = false ∧
      t = { State.reset with
            pins := t.pins
            store := { State.reset.store with cells := t.store.cells }
            pending := s.pending } ∧
      (c = .resetPinAsserted tear → t.pins = { s.pins with resetPin := true }) ∧
      (c = .powerLoss tear → t.pins = { s.pins with power := false }) ∧
      (∀ k image n, s.store.mode = .writing k image n → image.length = 19 →
        s.memoryKeptBut t (64 + 19 * k) 19 ∧
        ∀ i, i < 19 → readByte t.store.cells (64 + 19 * k + i) = readByte s.store.cells (64 + 19 * k + i) ∨
          some (readByte t.store.cells (64 + 19 * k + i)) = image[i]?) ∧
      (∀ image n, s.store.mode = .saving image n → image.length = 64 →
        s.memoryKeptBut t 0 64 ∧
        ∀ i, i < 64 → readByte t.store.cells i = readByte s.store.cells i ∨
          some (readByte t.store.cells i) = image[i]?) ∧
      ((∀ k image n, s.store.mode ≠ .writing k image n) → (∀ image n, s.store.mode ≠ .saving image n) →
        t.store.cells = s.store.cells)

/-- REFERENCE_CLOCK_STOPS and REFERENCE_CLOCK_RETURNS change nothing but that the clock stands or runs, and while it
stands no time event, no byte from the air and no counted limit takes effect (R2, R99, R144, R158, R171). For the bytes, the
byte errors and the frames of the uplink this is deduced from R109, whose bit timing is the reference clock's
(assumption 22). -/
def Obligations.StoppedReferenceHoldsEveryTiming : Prop :=
  ∀ s : State,
    exec .referenceClockStops s = .next { s with pins := { s.pins with refStopped := true } } ∧
    exec .referenceClockReturns s = .next { s with pins := { s.pins with refStopped := false } } ∧
    (s.pins.refStopped = true →
      (∀ c, c ∈ [Instr.slotStart, .downlinkWindowEnd, .replyWindowEnd, .hourTick, .burstComplete, .notePulseEnd,
        .linkGapExpiry, .uplinkByteError] → exec c s = .next s) ∧
      (∀ k, exec (.replySubWindowStart k) s = .next s) ∧ (∀ b, exec (.uplinkByteArrival b) s = .next s) ∧
      (∀ b, exec (.uplinkFrameComplete b) s = .next s) ∧ ∀ left, exec (.storeMemoryTimeout left) s = .next s)

/-! ### Time -/

/-- REPLY_WINDOW_END moves the clock to the next slot, and the cycle with it from slot 119; where that would bring an
hour tick, slot, cycle and district hour wait to change together, which is the model's reading of R3 (assumption 8). The
framer is left without a window, the FIFO is as it was, and of the rolls only those with a frame in the FIFO stay open.
After a slot start that was taken first the clock has moved already. A roll with no frame in the FIFO closes: for each position
that is charged the kit's missed run rises by 1, up to 15, SILENT is posted and silent reported set at the mark, UNREACHED is
posted at the budget, and no other kit, no list and nothing else of a record changes; the order of the two notices is the
model's choice (assumption 29), and so is the time they carry (assumption 8). HOUR_TICK, when it is due: slot and cycle become 0 and
the district hour rises by 1; at 16,777,215 it holds and the end-of-count flag is set, the absolute cycle reads
1,006,632,959, and nothing else changes (R2, R3, R4, R107, R126, R128 to R130). -/
def Obligations.ReplyWindowEndAndHourTickMoveTheClock : Prop :=
  (∀ s : State, s.timed = true → s.clock.tickDue = false →
    ∃ t, exec .replyWindowEnd s = .next t ∧
      (s.clock.timer ≠ .early →
        (s.clock.slot < 119 → t.clock = { s.clock with slot := s.clock.slot + 1, timer := .boundary }) ∧
        (s.clock.slot = 119 → s.clock.cycle < 59 →
          t.clock = { s.clock with slot := 0, cycle := s.clock.cycle + 1, timer := .boundary }) ∧
        (s.clock.slot = 119 → s.clock.cycle = 59 → t.clock = { s.clock with tickDue := true, timer := .boundary }) ∧
        t.framer.armed = none ∧
        ∀ r ∈ t.builder.rolls, r.windowEnded = true ∧ ∃ f ∈ s.framer.fifo, f.roll = some r.id) ∧
      (s.clock.timer = .early → t.clock = { s.clock with timer := .downlink } ∧ t.framer.armed = s.framer.armed) ∧
      t.framer.window = none ∧ t.framer.fifo = s.framer.fifo ∧ t.handler = s.handler ∧ t.store = s.store ∧
      t.settings = s.settings ∧ t.walk = s.walk ∧ t.link.op = s.link.op ∧ t.link.hand = s.link.hand ∧
      t.builder.onAir = s.builder.onAir ∧ t.builder.ready = s.builder.ready ∧
      t.builder.preparing = s.builder.preparing ∧ ∀ k, (s.kit k).sameStored (t.kit k)) ∧
  (∀ (s : State) (roll : Roll), s.timed = true → s.clock.timer ≠ .early → s.builder.rolls = [roll] →
    (∀ f ∈ s.framer.fifo, f.roll ≠ some roll.id) → (roll.positions.map Position.kit).Nodup →
    ∃ t, exec .replyWindowEnd s = .next t ∧ t.builder.rolls = [] ∧
      (∀ k, t.kit k = (s.kit k).afterClose s.settings roll k) ∧
      (let posted := roll.positions.flatMap fun p => (s.kit p.kit).closeNotices s.settings roll p
       s.link.notices.length + posted.length ≤ 32 → t.link.notices = s.link.notices ++ t.clock.stamp posted) ∧
      (s.tablesCanonical = true → s.listsFollow → ∀ slot, t.list slot = s.list slot)) ∧
  ∀ s : State, s.timed = true → s.clock.tickDue = true → s.clock.slot = 119 → s.clock.cycle = 59 →
    (s.clock.dh < 16777215 →
      exec .hourTick s =
        .next { s with clock := { s.clock with dh := s.clock.dh + 1, cycle := 0, slot := 0, tickDue := false } }) ∧
    (s.clock.dh = 16777215 →
      ∃ t, exec .hourTick s = .next t ∧
        t = { s with clock := { s.clock with cycle := 0, slot := 0, endOfCount := true, tickDue := false } } ∧
        t.clock.absCycle = 1006632959)

/-- SLOT_START with a READY burst for the new slot and the part ON AIR: the buffer is ON AIR and KEY asserted, the
counters rise by the burst, its entries and its stale entries, the slot's idle counter is 0, a burst with entries opens a
roll with a position for each entry in order, with two rolls open the older is closed first, and the framer is set to
search the reply window if the uplink option is on (R97, R102, R103, R107). The clock then names the slot that starts; that a
slot start not preceded by the reply window end moves the clock itself, and carries a due hour tick over, is the model's choice
(assumptions 8 and 9). -/
def Obligations.SlotStartSendsTheReadyBurst : Prop :=
  ∀ (s : State) (b : Burst), s.timed = true → s.link.op = .onAir → s.builder.ready = some b →
    b.slot = s.clock.atSlotStart.slot →
    ∃ t, exec .slotStart s = .next t ∧
      t.key = true ∧ t.builder.onAir = some b ∧ t.builder.ready = none ∧ t.builder.preparing = s.builder.preparing ∧
      t.clock = s.clock.atSlotStart ∧
      (s.clock.timer = .boundary → s.clock.tickDue = false → t.clock = { s.clock with timer := .downlink }) ∧
      (s.clock.timer ≠ .boundary → t.clock = { s.clock.advance with timer := .early }) ∧
      lookupAt 0 t.scheduler.idle b.slot = 0 ∧
      t.link.counters.bursts = min (s.link.counters.bursts + 1) 65535 ∧
      t.link.counters.headerBursts = (if b.entries = [] then min (s.link.counters.headerBursts + 1) 65535
        else s.link.counters.headerBursts) ∧
      t.link.counters.entries = min (s.link.counters.entries + b.entries.length) 65535 ∧
      (b.entries = [] → t.builder.rolls = s.builder.rolls ∧ t.link.counters.staleEntries =
        min s.link.counters.staleEntries 65535 ∧ t.roster = s.roster ∧ t.scheduler.lists = s.scheduler.lists) ∧
      (b.entries ≠ [] →
        ∃ roll : Roll, t.builder.slotRoll = some roll.id ∧ roll.slot = b.slot ∧ roll.cycle = b.targetCycle ∧
          roll.hold = b.hold ∧ roll.windowEnded = false ∧
          roll.positions.map (fun p => (p.kit, p.issue, p.answered)) = b.entries.map (fun e => (e.kit, e.issue, false)) ∧
          t.link.counters.staleEntries =
            min (s.link.counters.staleEntries + (roll.positions.filter (·.outcome == .stale)).length) 65535 ∧
          (s.builder.rolls.length < 2 → t.builder.rolls = s.builder.rolls ++ [roll]) ∧
          ∀ oldest other, s.builder.rolls = [oldest, other] → oldest.id ≠ other.id →
            t.builder.rolls = [other, roll]) ∧
      t.framer.armed = (if s.settings.uplink then some (t.clock.slot, t.clock.absCycle) else none) ∧
      t.store = s.store ∧ t.settings = s.settings ∧ t.walk = s.walk ∧ t.handler = s.handler ∧
      t.framer.fifo = s.framer.fifo ∧ t.link.hand = s.link.hand ∧ t.link.replies = s.link.replies ∧
      ∀ k, (s.kit k).sameStored (t.kit k)

/-- The count of each entry at SLOT_START (R85 to R89, R102), and the forced close it can bring (R103, R127 to R129). An entry
counts when its kit is enrolled with the encoded issue: last sent is stamped, unlock is cleared, move sent is set if a move is
pending; for a PENDING kit taken from its list sends rise but for an answering kit under reply hold, and a kit that cannot
reply settles once its sends are at the budget, with DELIVERED posted unconfirmed if notify is set. A stale entry, and every
kit the burst does not name, leaves the record as it was. AUDITS rises by the counted audits; each position of the new roll
holds its outcome and the sends as the count left them; a kit that settles leaves every list, and a PENDING kit that straddles
from now on joins its ordered slot's list at the tail. With two rolls open and entries to send, the older one closes on its
positions as they stand. The model's choices: the counts come before the close, and SILENT before UNREACHED (assumption 29); a
position of a kit no longer enrolled has the figure 0 (assumption 41); the notices carry the time of the slot that starts
(assumption 8). -/
def Obligations.SlotStartCountsEachEntry : Prop :=
  ∀ (s : State) (b : Burst), s.timed = true → s.link.op = .onAir → s.builder.ready = some b →
    b.slot = s.clock.atSlotStart.slot → s.builder.rolls.length ≤ 2 →
    (b.entries.map Entry.kit).Nodup → (∀ roll ∈ s.builder.rolls, (roll.positions.map Position.kit).Nodup) →
    let g := s.settings
    let now := s.clock.atSlotStart.absCycle
    let counted (k : Nat) : Kit := (s.kit k).afterCount g now b.hold b.entries k
    let closing := if b.entries ≠ [] ∧ s.builder.rolls.length = 2 then s.builder.rolls.head? else none
    let posted :=
      b.entries.flatMap (fun e => (s.kit e.kit).countNotices g now b.hold e) ++
      closing.toList.flatMap fun roll => roll.positions.flatMap fun p => (counted p.kit).closeNotices g roll p
    ∃ t, exec .slotStart s = .next t ∧
      (∀ k, t.kit k = match closing with
        | some roll => (counted k).afterClose g roll k
        | none => counted k) ∧
      (s.link.notices.length + posted.length ≤ 32 →
        t.link.notices = s.link.notices ++ s.clock.atSlotStart.stamp posted) ∧
      (s.link.counters.audits ≤ 65535 → t.link.counters.audits = min (s.link.counters.audits +
        (b.entries.filter fun e => e.audit && (s.kit e.kit).countOutcome e != .stale).length) 65535) ∧
      (b.entries ≠ [] → ∃ roll ∈ t.builder.rolls, t.builder.slotRoll = some roll.id ∧
        roll.positions = b.entries.map fun e => (s.kit e.kit).positionOf g now b.hold e) ∧
      (s.tablesCanonical = true → s.listsFollow → ∀ slot, t.list slot =
        ((s.list slot).filter fun k => slot ∈ (t.kit k).requiredSlots) ++
          ((b.entries.map Entry.kit).filter fun k => slot ∈ (t.kit k).requiredSlots ∧ k ∉ s.list slot))

/-- SLOT_START with no burst to send: none is READY for the new slot, or the part is not ON AIR. A preparation for the new slot
that is not complete is missed: the buffer is abandoned and MISSED SLOTS rises. Otherwise the buffers stay as they are. Nothing
goes on air: no record, list, pointer, idle counter or roll changes. The clock names the slot that starts, and the framer is set
to search its reply window exactly when the part is ON AIR with the uplink option on (R84, R97, R107). That a slot start not
preceded by the reply window end moves the clock itself, and carries a due hour tick over, is the model's choice (assumptions 8
and 9). -/
def Obligations.SlotStartMissesAnUnfinishedPreparation : Prop :=
  ∀ s : State, s.timed = true →
    (∀ b, s.builder.ready = some b → s.link.op ≠ .onAir ∨ b.slot ≠ s.clock.atSlotStart.slot) →
    ∃ t, exec .slotStart s = .next t ∧
      t.clock = s.clock.atSlotStart ∧
      (s.clock.timer = .boundary → s.clock.tickDue = false → t.clock = { s.clock with timer := .downlink }) ∧
      (s.clock.timer ≠ .boundary → t.clock = { s.clock.advance with timer := .early }) ∧
      t.framer = { s.framer with armed :=
        if s.link.op = .onAir ∧ s.settings.uplink = true then some (t.clock.slot, t.clock.absCycle) else none } ∧
      (∀ b, s.builder.preparing = some b → b.slot = t.clock.slot →
        t.builder = { s.builder with preparing := none, slotRoll := none } ∧ t.link = s.link.raised .missedSlots) ∧
      ((∀ b, s.builder.preparing = some b → b.slot ≠ t.clock.slot) →
        t.builder = { s.builder with slotRoll := none } ∧ t.link = s.link) ∧
      t.builder.onAir = s.builder.onAir ∧ t.builder.rolls = s.builder.rolls ∧ t.key = s.key ∧
      t.roster = s.roster ∧ t.store = s.store ∧ t.walk = s.walk ∧ t.handler = s.handler ∧ t.settings = s.settings ∧
      t.pins = s.pins ∧ t.scheduler = { s.scheduler with preparedFor := t.scheduler.preparedFor }

/-- DOWNLINK_WINDOW_END while ON AIR with both buffers free and the next slot not prepared for: a preparation for the next slot
begins with its selection act, which fills the PREPARING buffer and moves the pattern pointer, the audit pointer and the idle
counter of the slot (`State.selects`, R79 to R83), and changes no record, no list and nothing else; the reply window begins.
With the part not ON AIR, with the preparation for the next slot begun by START already, or with a buffer PREPARING or READY,
only the slot timer moves and nothing is prepared (R9, R15, R76, R79 to R84, R91 to R93). That an answering kit with sends at
the budget and no last sent is not eligible is deduced (assumption 28). -/
def Obligations.DownlinkWindowEndPreparesTheNextSlot : Prop :=
  (∀ s : State, s.timed = true → s.link.op = .onAir → s.builder.preparing = none → s.builder.ready = none →
    s.scheduler.preparedFor ≠ some s.clock.advance.slot → s.tablesCanonical = true → s.listsFollow →
    s.scheduler.patternWhole = true →
    ∃ t, exec .downlinkWindowEnd s = .next t ∧ s.selects t.scheduler t.builder.preparing ∧
      t = { s with
            clock := { s.clock with timer := .reply 1 }
            scheduler := t.scheduler
            builder := { s.builder with preparing := t.builder.preparing } }) ∧
  ∀ s : State, s.timed = true →
    s.link.op ≠ .onAir ∨ s.scheduler.preparedFor = some s.clock.advance.slot ∨ s.builder.preparing ≠ none ∨
      s.builder.ready ≠ none →
    exec .downlinkWindowEnd s = .next { s with clock := { s.clock with timer := .reply 1 } }

/-- REPLY_SUB_WINDOW_START closes the sub-window before it, counting a frame still being taken as SHORT, and the framer
searches anew: in a window that is to be searched it enters LISTENING and SEARCHING, in one that drops it goes on
dropping, and outside a searched window it holds none (R107, R108, R110, R112). -/
def Obligations.SubWindowStartSearchesAnew : Prop :=
  ∀ (s : State) (k : Nat), s.timed = true →
    ∃ t, exec (.replySubWindowStart k) s = .next t ∧
      t = { s with clock := { s.clock with timer := .reply k }, framer := t.framer, link := t.link } ∧
      t.link = (match s.framer.window.map Window.mode with
        | some (.listening (.taking _)) => s.link.raised .short
        | _ => s.link) ∧
      t.framer.fifo = s.framer.fifo ∧ t.framer.armed = none ∧
      t.framer.window = (match s.framer.armed, s.framer.window with
        | some (slot, cycle), _ =>
          some { slot := slot, cycle := cycle, roll := s.builder.slotRoll, sub := k, mode := .listening .searching }
        | none, some w =>
          some { w with sub := k, mode := if w.mode = .dropping then .dropping else .listening .searching }
        | none, none => none)

/-- PREPARATION_COMPLETE makes the buffer READY with its burst encoded, and BURST_COMPLETE leaves the buffer that was on
air EMPTY and KEY deasserted; nothing else changes. A burst of n entries is 12 + 11 n bytes, each byte ten bits on the
line: a start bit, eight data bits least significant first and a stop bit, with no gap; the data line rests at the stop-bit
level after them and whenever no buffer is ON AIR (R91, R92, R96, R99, R100). -/
def Obligations.BurstBuffersCompleteAndEmpty : Prop :=
  (∀ (s : State) (b : Burst), s.live = true → s.builder.preparing = some b →
    exec .preparationComplete s =
      .next { s with builder := { s.builder with preparing := none, ready := some { b with encoded := b.bytes } } }) ∧
  (∀ s : State, s.clocked = true →
    ∃ t, exec .burstComplete s = .next t ∧ t = { s with builder := { s.builder with onAir := none } } ∧ t.key = false) ∧
  (∀ b : Burst, b.bytes.length = 12 + 11 * b.entries.length) ∧
  (∀ (s : State) (b : Burst), s.builder.onAir = some b →
    s.downlinkBits.length = 10 * b.encoded.length ∧ lineSends b.encoded s.downlinkLevel) ∧
  ∀ s : State, s.builder.onAir = none → s.key = false ∧ ∀ i, s.downlinkLevel i = true

/-! ### The uplink -/

/-- UPLINK_BYTE_ARRIVAL and UPLINK_BYTE_ERROR follow the sub-window states (R108, R109): the sync pattern is found, up to
ten bytes are taken, a byte error starts the search again or cuts the frame as SHORT, and bytes after a frame, in a
dropped window or outside any window are ignored. -/
def Obligations.UplinkBytesFollowTheSubWindowStates : Prop :=
  (∀ (s : State) (w : Window) (st : SubState) (b : Byte), s.clocked = true → s.framer.window = some w →
    w.mode = .listening st →
    let goes (st' : SubState) : State :=
      { s with framer := { s.framer with window := some { w with mode := .listening st' } } }
    (st = .searching → exec (.uplinkByteArrival b) s = .next (if b = 0x6B then goes .syncSeen else s)) ∧
    (st = .syncSeen → exec (.uplinkByteArrival b) s =
      .next (if b = 0x91 then goes (.taking []) else if b = 0x6B then s else goes .searching)) ∧
    (∀ bs, st = .taking bs → bs.length < 10 → exec (.uplinkByteArrival b) s = .next (goes (.taking (bs ++ [b])))) ∧
    (st = .done → exec (.uplinkByteArrival b) s = .next s ∧ exec .uplinkByteError s = .next s) ∧
    (st = .searching → exec .uplinkByteError s = .next s) ∧
    (st = .syncSeen → exec .uplinkByteError s = .next (goes .searching)) ∧
    ∀ bs, st = .taking bs →
      exec .uplinkByteError s = .next { goes .done with link := s.link.raised .short }) ∧
  ∀ (s : State) (b : Byte), (∀ w st, s.framer.window = some w → w.mode ≠ .listening st) →
    exec (.uplinkByteArrival b) s = .next s ∧ exec .uplinkByteError s = .next s

/-- The eleventh byte after the sync pattern, as UPLINK_FRAME_COMPLETE or as the arrival of that byte, forms a frame with
the slot, cycle, roll and sub-window of its window: it joins the FIFO's tail, or, with two frames there, it is an overrun
and the framer drops the rest of the window (R111, R112). -/
def Obligations.CompleteFrameJoinsTheFifoOrOverruns : Prop :=
  ∀ (s : State) (w : Window) (bs : List Byte) (b : Byte) (c : Instr), s.clocked = true → s.framer.window = some w →
    w.mode = .listening (.taking bs) → bs.length = 10 → c = .uplinkFrameComplete b ∨ c = .uplinkByteArrival b →
    (s.framer.fifo.length < 2 →
      exec c s = .next { s with framer := { s.framer with
        fifo := s.framer.fifo ++ [{ bytes := bs ++ [b], slot := w.slot, cycle := w.cycle, position := w.sub, roll := w.roll }]
        window := some { w with mode := .listening .done } } }) ∧
    (2 ≤ s.framer.fifo.length →
      exec c s = .next { s with
        framer := { s.framer with window := some { w with mode := .dropping } }, link := s.link.raised .overruns })

/-- A receipt that a kit sends, heard whole in one sub-window, becomes exactly one frame of the FIFO, whose check is good
for the kit's code and whose fields read back as the kit gave them (R106, R108, R111, R117, R179, R181). The kit is the model's
own account of one, beside the part (assumption 36). -/
def Obligations.KitReplyBecomesOneGoodFrame : Prop :=
  ∀ (k : RadioKit) (s : State) (w : Window), s.clocked = true → s.framer.window = some w →
    w.mode = .listening .searching → s.framer.fifo.length < 2 →
    k.district ≤ 65535 → k.number ≤ 65535 → k.usage ≤ 65535 →
    execAll (k.reply.map Instr.uplinkByteArrival) s = .next { s with framer := { s.framer with
      fifo := s.framer.fifo ++ [{ bytes := k.receipt, slot := w.slot, cycle := w.cycle, position := w.sub, roll := w.roll }]
      window := some { w with mode := .listening .done } } } ∧
    receiptGood k.code k.receipt = true ∧ receiptDistrict k.receipt = k.district ∧ receiptKit k.receipt = k.number ∧
    receiptIssue k.receipt = k.issue ∧ receiptUsage k.receipt = k.usage ∧
    (receiptStatus k.receipt).lamp = k.status.getLsbD 7 ∧ (receiptStatus k.receipt).lid = k.status.getLsbD 6 ∧
    (receiptStatus k.receipt).battery = k.status.extractLsb' 0 3

/-- A kit that hears a burst with an entry of its own sets its hour, adopts the entry's whole order exactly when the issue
is newer than the one it holds, and answers in the sub-window of the entry's position with the issue it then holds, unless
it is one-way or the header asks it to hold its reply (R94, R95, R104 to R106, R179, R180). The kit is the model's own account
of one, beside the part (assumption 36). -/
def Obligations.KitAdoptsTheNewerOrderOfItsEntry : Prop :=
  ∀ (k : RadioKit) (b : Burst) (before after : List Entry) (e : Entry),
    b.entries = before ++ e :: after → b.entries.length ≤ 6 → b.district = k.district → k.district ≤ 65535 →
    b.dh ≤ 16777215 → e.kit = k.number → k.number ≤ 4095 → e.code = k.code → e.horizon ≤ 16777215 → e.slot ≤ 119 →
    (∀ e' ∈ before, e'.kit ≠ k.number ∧ e'.kit ≤ 4095) →
    let heard := k.hear b.bytes
    let held : RadioKit :=
      if newerThan e.issue k.issue then
        { k with hour := b.dh, issue := e.issue, horizon := e.horizon, listen := e.slot, held := e.held }
      else { k with hour := b.dh }
    heard.1 = held ∧
    heard.2 = if k.answers && !b.hold then some (before.length + 1, held.reply) else none

/-! ### Receipts -/

/-- RECEIPT_HANDLE takes the frame at the head and decides it by the first test that fails: the roll its tag names, the
district, the position and its kit, the check. A frame so decided raises its one counter, posts the notice its option asks
for, leaves the FIFO, and changes no record (R115 to R117). -/
def Obligations.RefusedFrameChangesNoRecord : Prop :=
  ∀ (s : State) (f : Frame) (rest : List Frame), s.live = true → s.link.op ≠ .loading → s.handler = .idle →
    s.framer.fifo = f :: rest → (∀ r ∈ s.builder.rolls, r.windowEnded = false) →
    let roll := s.builder.rolls.find? fun r => f.roll = some r.id
    let done (l : Link) : State := { s with framer := { s.framer with fifo := rest }, link := l }
    let noted (kind : NoticeKind) (kit : Option Nat) (l : Link) : Link :=
      l.posted { kind := kind, dh := s.clock.dh, cycle := s.clock.cycle, kit := kit }
    let k := receiptKit f.bytes
    (roll = none → exec .receiptHandle s = .next (done (s.link.raised .stray))) ∧
    ∀ q, roll = some q →
      (receiptDistrict f.bytes ≠ s.settings.district →
        exec .receiptHandle s = .next (done (if s.settings.foreignPass then
          noted (.foreign (receiptDistrict f.bytes) f.slot f.position) (if k < 4096 then some k else none)
            (s.link.raised .foreign) else s.link.raised .foreign))) ∧
      (receiptDistrict f.bytes = s.settings.district →
        ((f.position = 0 ∨ q.positions.length < f.position ∨ (∀ r, s.kit k ≠ .enrolled r) ∨
            ∃ p, q.positions[f.position - 1]? = some p ∧ p.kit ≠ k) →
          exec .receiptHandle s = .next (done (s.link.raised .stray))) ∧
        ∀ p r, 1 ≤ f.position → q.positions[f.position - 1]? = some p → p.kit = k → s.kit k = .enrolled r →
          receiptGood r.code f.bytes = false →
          exec .receiptHandle s = .next (done (if s.settings.saveBad then
            noted (.badReply f.slot f.position (receiptIssue f.bytes)) (some k) (s.link.raised .badCheck)
            else s.link.raised .badCheck)))

/-- RECEIPT_HANDLE on a frame that passes the four tests: the contact fields are set, and the reading of the held issue,
by the distance from it forward to the current issue, decides the rest. Current: the kit is SETTLED with the issue
confirmed. Behind: the held issue is the confirmed one, and a settled kit is PENDING again with sends 0. Ahead: never a
confirmation. The one counter of the reading rises, no persisted field changes, and the lists follow
(R56, R57, R73, R118 to R121). -/
def Obligations.AcceptedReceiptIsReadByItsDistance : Prop :=
  ∀ (s : State) (f : Frame) (rest : List Frame) (roll : Roll) (p : Position) (r : KitRec),
    s.live = true → s.link.op ≠ .loading → s.handler = .idle → s.framer.fifo = f :: rest →
    s.builder.rolls.find? (fun q => f.roll = some q.id) = some roll → receiptDistrict f.bytes = s.settings.district →
    1 ≤ f.position → roll.positions[f.position - 1]? = some p → p.kit = receiptKit f.bytes →
    s.kit (receiptKit f.bytes) = .enrolled r → receiptGood r.code f.bytes = true → s.tablesCanonical = true →
    let k := receiptKit f.bytes
    let held := receiptIssue f.bytes
    let d := (r.issue - held).toNat
    ∃ t r', exec .receiptHandle s = .next t ∧ t.kit k = .enrolled r' ∧
      r.sameStored r' ∧ r'.lastHeard = some f.cycle ∧ r'.lastStatus = some (receiptStatus f.bytes) ∧
      r'.tamper = (if (receiptStatus f.bytes).lid then min (r.tamper + 1) 15 else 0) ∧
      r'.lastSent = r.lastSent ∧ r'.unlock = r.unlock ∧ r'.moveSent = r.moveSent ∧
      ((∀ q ∈ s.builder.rolls, q.windowEnded = false) → r'.missed = 0 ∧ r'.silentReported = false) ∧
      (d = 0 → r'.settled = true ∧ r'.confirmed = some r.issue ∧ r'.sends = r.sends ∧
        t.link.counters.confirmed = min (s.link.counters.confirmed + 1) 65535 ∧
        t.link.counters.behind = s.link.counters.behind ∧ t.link.counters.ahead = s.link.counters.ahead ∧
        (r.settled = false → r'.notify = false)) ∧
      (1 ≤ d → d ≤ 32767 → r'.settled = false ∧ r'.confirmed = some held ∧ r'.notify = r.notify ∧
        r'.sends = (if r.settled then 0 else r.sends) ∧
        t.link.counters.behind = min (s.link.counters.behind + 1) 65535 ∧
        t.link.counters.confirmed = s.link.counters.confirmed ∧ t.link.counters.ahead = s.link.counters.ahead) ∧
      (32768 ≤ d → r'.settled = r.settled ∧ r'.confirmed = r.confirmed ∧ r'.sends = r.sends ∧ r'.notify = r.notify ∧
        t.link.counters.ahead = min (s.link.counters.ahead + 1) 65535 ∧
        t.link.counters.confirmed = s.link.counters.confirmed ∧ t.link.counters.behind = s.link.counters.behind) ∧
      (∀ slot, k ∈ t.list slot ↔ slot ∈ (t.kit k).requiredSlots) ∧
      (∀ j, j ≠ k → (s.kit j).sameStored (t.kit j)) ∧ t.store = s.store ∧ t.settings = s.settings ∧ t.clock = s.clock

/-- What an accepted receipt posts and asks for (R118 to R125, R136, R168). TAMPER when the lid takes the run to the mark, USAGE
with that option on, DELIVERED for a pending kit that confirms its order with notify set, and ANOMALY for a reading ahead; that
they are posted in this order is the model's choice, which the rules leave open (assumption 29). It asks the dirty queue for
the completion of a pending move when the roll is of the ordered slot or the held issue is at or after the move issue and not
ahead, and then for the withdrawal of an ACTIVE kit when auto-hold is on and the run reached the mark, but for nothing in
FAULTED. With a request made the handler is STALLED on the frame, which stays at the head of the FIFO. -/
def Obligations.AcceptedReceiptPostsAndAsks : Prop :=
  ∀ (s : State) (f : Frame) (rest : List Frame) (roll : Roll) (p : Position) (r : KitRec),
    s.live = true → s.link.op ≠ .loading → s.handler = .idle → s.framer.fifo = f :: rest →
    s.builder.rolls.find? (fun q => f.roll = some q.id) = some roll → receiptDistrict f.bytes = s.settings.district →
    1 ≤ f.position → roll.positions[f.position - 1]? = some p → p.kit = receiptKit f.bytes →
    s.kit (receiptKit f.bytes) = .enrolled r → receiptGood r.code f.bytes = true →
    let k := receiptKit f.bytes
    let held := receiptIssue f.bytes
    let st := receiptStatus f.bytes
    let d := (r.issue - held).toNat
    let tampers := st.lid = true ∧ 0 < s.settings.tamperMark ∧ r.tamper < s.settings.tamperMark ∧
      min (r.tamper + 1) 15 = s.settings.tamperMark
    let kinds : List NoticeKind :=
      (if tampers then [.tamper (min (r.tamper + 1) 15) st] else []) ++
      (if s.settings.usageNotices then [.usage (receiptUsage f.bytes) st] else []) ++
      (if d = 0 ∧ r.settled = false ∧ r.notify = true then [.delivered r.issue true] else []) ++
      (if 32768 ≤ d then [.anomaly held r.issue] else [])
    let moves := ∃ mi, r.moveIssue = some mi ∧ (roll.slot = r.ordered ∨ ((held - mi).toNat ≤ 32767 ∧ d ≤ 32767))
    let holds := tampers ∧ s.settings.autoHold = true ∧ r.heldHours = none
    ∃ t, exec .receiptHandle s = .next t ∧
      (s.link.notices.length + kinds.length ≤ 32 → s.link.notices ++
        kinds.map (fun kind => { kind := kind, dh := s.clock.dh, cycle := s.clock.cycle, kit := some k })
          <+: t.link.notices) ∧
      ((s.link.op = .faulted ∨ (¬ moves ∧ ¬ holds)) → t.handler = .idle ∧ t.framer.fifo = rest) ∧
      (s.link.op ≠ .faulted → moves ∨ holds → t.framer.fifo = f :: rest) ∧
      (s.link.op ≠ .faulted → moves → ¬ holds → t.handler = .stalled (.completeMove k) none) ∧
      (s.link.op ≠ .faulted → ¬ moves → holds → t.handler = .stalled (.tamperHold k) none) ∧
      (s.link.op ≠ .faulted → moves → holds → t.handler = .stalled (.completeMove k) (some (.tamperHold k)))

/-- MOVE_COMPLETION, once the queue can take it: the listen slot becomes the ordered slot, the move issue goes, move sent
is cleared, and the order, the delivery fields and every other persisted field stay; MOVED is posted with the old slot, the
new slot and the move issue, and the record waits to be written. For a kit that is FREE or DAMAGED by then, or has no move
pending, it is passed over: no persisted field changes, no room is taken and no MOVED is posted. Either way the frame's second
request is made next, if it has one, and otherwise the frame is finished (R73, R124, R137). -/
def Obligations.MoveCompletionMovesTheListenSlot : Prop :=
  ∀ (s : State) (k : Nat) (second : Option HandlerReq), s.live = true → s.handler = .stalled (.completeMove k) second →
    s.canAccept k = true → s.wants .link = none → s.wants .walker = none →
    s.store.mode ≠ .idle ∨ s.store.queue = [] →
    ∃ t, exec .moveCompletion s = .next t ∧
      (second = none → t.handler = .idle ∧ t.framer.fifo = s.framer.fifo.tail) ∧
      (∀ q, second = some q → t.handler = .stalled q none ∧ t.framer.fifo = s.framer.fifo) ∧
      (∀ j, j ≠ k → (s.kit j).sameStored (t.kit j)) ∧ t.store.cells = s.store.cells ∧ t.clock = s.clock ∧
      (∀ r mi, s.kit k = .enrolled r → r.moveIssue = some mi →
        ∃ r', t.kit k = .enrolled r' ∧
          r'.listen = r.ordered ∧ r'.ordered = r.ordered ∧ r'.moveIssue = none ∧ r'.moveSent = false ∧
          r'.issue = r.issue ∧ r'.horizon = r.horizon ∧ r'.heldHours = r.heldHours ∧ r'.mark = r.mark ∧
          r'.code = r.code ∧ r'.answers = r.answers ∧ r'.settled = r.settled ∧ r'.confirmed = r.confirmed ∧
          r'.sends = r.sends ∧ r'.unlock = r.unlock ∧ r'.notify = r.notify ∧ t.unsaved k = true ∧
          (s.tablesCanonical = true → ∀ slot, k ∈ t.list slot ↔ slot ∈ (t.kit k).requiredSlots) ∧
          (s.link.notices.length < 32 → s.link.notices ++ [{ kind := .moved r.listen r.ordered mi, dh := s.clock.dh
                                                             cycle := s.clock.cycle, kit := some k }] <+: t.link.notices)) ∧
      ((∀ r, s.kit k = .enrolled r → r.moveIssue = none) →
        (s.kit k).sameStored (t.kit k) ∧ t.store.queue = s.store.queue ∧
        ∀ n ∈ t.link.notices, n ∉ s.link.notices → ∀ old new mi, n.kind ≠ .moved old new mi)

/-- WITHDRAWAL_ON_TAMPER, once the queue can take it, on a kit that is still ACTIVE: the remaining hours, at most 17,520,
are held, the horizon becomes the district hour, the issue steps, the kit is PENDING with sends 0 and unlock and notify
clear, and AUTO-HELD is posted with the held hours, the lost hours and the new issue. A kit no longer ACTIVE is passed
over: no persisted field changes, no room is taken and no AUTO-HELD is posted. Either way the frame's next request is made, if
it has one, and otherwise the frame is finished (R22, R48, R53, R122, R124). -/
def Obligations.TamperWithdrawalHoldsTheKit : Prop :=
  ∀ (s : State) (k : Nat) (second : Option HandlerReq), s.live = true → s.handler = .stalled (.tamperHold k) second →
    s.canAccept k = true → s.wants .link = none → s.wants .walker = none →
    s.store.mode ≠ .idle ∨ s.store.queue = [] →
    ∃ t, exec .withdrawalOnTamper s = .next t ∧
      (second = none → t.handler = .idle ∧ t.framer.fifo = s.framer.fifo.tail) ∧
      (∀ q, second = some q → t.handler = .stalled q none ∧ t.framer.fifo = s.framer.fifo) ∧
      (∀ j, j ≠ k → (s.kit j).sameStored (t.kit j)) ∧ t.store.cells = s.store.cells ∧ t.clock = s.clock ∧
      (∀ r, s.kit k = .enrolled r → r.heldHours = none →
        let held := min (r.horizon - s.clock.dh) 17520
        ∃ r', t.kit k = .enrolled r' ∧ r'.heldHours = some held ∧ r'.horizon = s.clock.dh ∧ r'.issue = r.issue + 1 ∧
          r'.settled = false ∧ r'.confirmed = r.confirmed ∧ r'.sends = 0 ∧ r'.unlock = false ∧ r'.notify = false ∧
          r'.moveSent = r.moveSent ∧ r'.moveIssue = r.moveIssue ∧ r'.listen = r.listen ∧ r'.ordered = r.ordered ∧
          r'.mark = r.mark ∧ r'.code = r.code ∧ r'.answers = r.answers ∧ t.unsaved k = true ∧
          (s.link.notices.length < 32 →
            s.link.notices ++ [{ kind := .autoHeld held (r.horizon - s.clock.dh - held) (r.issue + 1), dh := s.clock.dh
                                 cycle := s.clock.cycle, kit := some k }] <+: t.link.notices)) ∧
      ((∀ r, s.kit k = .enrolled r → r.heldHours ≠ none) →
        (s.kit k).sameStored (t.kit k) ∧ t.store.queue = s.store.queue ∧
        ∀ n ∈ t.link.notices, n ∉ s.link.notices → ∀ h l i, n.kind ≠ .autoHeld h l i)

/-! ### The grace walk -/

/-- GRACE_EXAMINE takes the record at the next index in hand when it is ACTIVE, its mark differs from the walk's number and
it is in scope; any other record is passed over with nothing changed, and past index 4,095 the walk ends completed with its
GRACE DONE (R62, R66). -/
def Obligations.GraceExaminePassesOverOrTakesInHand : Prop :=
  ∀ (s : State) (w : Walk), s.live = true → s.walk = some w → w.inHand = false → w.abort = false → w.next ≤ 4095 →
    let takes := ∃ r, s.kit w.next = .enrolled r ∧ r.heldHours = none ∧ r.mark ≠ w.number ∧
      (w.scope = 0 ∨ (s.clock.dh - w.scope ≤ r.horizon ∧ r.horizon ≤ s.clock.dh))
    (takes → exec .graceExamine s = .next { s with walk := some { w with inHand := true } }) ∧
    (¬ takes → w.next < 4095 → exec .graceExamine s = .next { s with walk := some { w with next := w.next + 1 } }) ∧
    (¬ takes → w.next = 4095 → exec .graceExamine s = .next { s with
      walk := none
      link := s.link.posted { kind := .graceDone w.number w.changed 4096 false, dh := s.clock.dh
                              cycle := s.clock.cycle, kit := none } })

/-- GRACE_RECKONING of the record in hand, once the queue can take it: a kit that still qualifies takes the grace as a
grant from the larger of its horizon and the district hour, up to the ceiling, and the mark of the walk in the same act;
its order steps, and the changed count with it, exactly when hours were accepted, and the record waits to be written. A record
that fails a test by then is passed over: nothing of it changes and no room is taken. In every case the index moves on; with
the abort flag set the walk then ends aborted, past index 4,095 it ends completed, and GRACE DONE is posted with its figures.
While the queue cannot take the index nothing changes (R22, R23, R43, R52, R63, R64, R66, R67). -/
def Obligations.GraceReckoningMarksAndGrants : Prop :=
  ∀ (s : State) (w : Walk), s.live = true → s.walk = some w → w.inHand = true →
    (s.canAccept w.next = false → exec .graceReckoning s = .next s) ∧
    (s.canAccept w.next = true → s.wants .link = none → s.wants .handler = none →
      let finished (changed : Nat) (s : State) : State :=
        if w.abort = true ∨ 4095 ≤ w.next then { s with
          walk := none
          link := s.link.posted { kind := .graceDone w.number changed (w.next + 1) w.abort, dh := s.clock.dh
                                  cycle := s.clock.cycle, kit := none } }
        else { s with walk := some { w with next := w.next + 1, inHand := false, changed := changed } }
      let inScope (r : KitRec) := w.scope = 0 ∨ (s.clock.dh - w.scope ≤ r.horizon ∧ r.horizon ≤ s.clock.dh)
      (∀ r, s.kit w.next = .enrolled r → r.heldHours = none → r.mark ≠ w.number → inScope r →
        let c := min (s.clock.dh + s.settings.advance) 16777215
        let base := max r.horizon s.clock.dh
        let accepted := min (base + w.hours) c - base
        ∃ t, exec .graceReckoning s = .next t ∧
          t.walk = (finished (w.changed + if accepted = 0 then 0 else 1) s).walk ∧
          t.link.notices = (finished (w.changed + if accepted = 0 then 0 else 1) s).link.notices ∧
          t.unsaved w.next = true ∧ (∀ j, j ≠ w.next → t.kit j = s.kit j) ∧
          (accepted = 0 → t.kit w.next = .enrolled { r with mark := w.number }) ∧
          (0 < accepted → t.kit w.next = .enrolled
            { r with
              horizon := base + accepted
              issue := r.issue + 1
              mark := w.number
              settled := false
              sends := 0
              unlock := if r.horizon ≤ s.clock.dh then true else r.unlock
              notify := false })) ∧
      ((∀ r, s.kit w.next = .enrolled r → ¬ (r.heldHours = none ∧ r.mark ≠ w.number ∧ inScope r)) →
        s.store.mode ≠ .idle ∨ (s.store.queue = [] ∧ s.store.owed = false) →
        exec .graceReckoning s = .next (finished w.changed s)))

/-- GRACE, taken: a figure out of range is answered RANGE, a running walk WALK BUSY with its number, and otherwise a walk
starts at index 0 and the reply gives its number and the district hour. GRACE ABORT, taken: with no walk it is answered NO
WALK; with one it is answered OK, and the walk ends at once unless a record is in hand. No record changes (R60, R67). -/
def Obligations.GraceAndGraceAbortAnswerAtOnce : Prop :=
  ∀ (s : State) (tag : Byte) (p : List Byte),
    (s.ready .grace tag p = true →
      let n := field p 0 1
      let h := field p 1 2
      let l := field p 3 2
      if n = 0 ∨ h = 0 ∨ 720 < h ∨ 720 < l then exec (.grace tag p) s = .next (s.answered .grace tag p .range [])
      else match s.walk with
        | some w => exec (.grace tag p) s = .next (s.answered .grace tag p .walkBusy (be1 w.number))
        | none => exec (.grace tag p) s = .next
            { s.answered .grace tag p .ok (be1 n ++ be3 s.clock.dh) with
              walk := some { number := n, hours := h, scope := l, next := 0, changed := 0, inHand := false, abort := false } }) ∧
    (s.ready .graceAbort tag p = true →
      match s.walk with
      | none => exec (.graceAbort tag p) s = .next (s.answered .graceAbort tag p .noWalk [])
      | some w =>
        let t := s.answered .graceAbort tag p .ok []
        if w.inHand then exec (.graceAbort tag p) s = .next { t with walk := some { w with abort := true } }
        else exec (.graceAbort tag p) s = .next { t with
          walk := none
          link := t.link.posted { kind := .graceDone w.number w.changed w.next true, dh := s.clock.dh
                                  cycle := s.clock.cycle, kit := none } })

/-! ### The record store -/

/-- STORE_ATTEMPT_COMPLETE of a record write that was read back as written: the record's nineteen bytes in the memory are
the image and every other byte is as it was; the record is verified, so its write is no longer in progress, and no attempt
is counted as a retry. The next write starts in the same act: the owed settings write first, and otherwise the head of the
dirty queue leaves it and is written as the record then stands. The room so made in a full queue goes to the first waiting
requester at or after the rotation pointer, whose request is reckoned and takes it; a request that makes no change leaves the
room to the next that waits, and the pointer moves on past each requester served (R41, R144, R146 to R148, R152). That the
image is taken after the room is given out is deduced from the order of R147 (assumption 18), and that room is given out only
when the queue was full likewise (assumption 19). -/
def Obligations.VerifiedWriteLeavesTheImageInTheMemory : Prop :=
  (∀ (s : State) (k : Nat) (image : List Byte) (n : Nat) (e : AttemptEnd), s.live = true →
    s.store.mode = .writing k image n → image.length = 19 → e = .good ∨ e = .readBack image →
    ∃ t, exec (.storeAttemptComplete e) s = .next t ∧
      readRun t.store.cells (64 + 19 * k) 19 = image ∧ s.memoryKeptBut t (64 + 19 * k) 19 ∧
      t.link.counters.storeRetries = s.link.counters.storeRetries ∧ t.link.op = s.link.op ∧
      (s.store.owed = false → s.store.queue = [] → t.store.mode = .idle) ∧
      (s.store.owed = true → t.store.mode = .saving (settingsImage s.settings s.scheduler.pattern) 1 ∧
        t.store.queue = s.store.queue ∧ t.store.rotation = s.store.rotation)) ∧
  ∀ (s : State) (k : Nat) (image : List Byte) (n : Nat) (head : Nat) (rest : List Nat), s.live = true →
    s.store.mode = .writing k image n → image.length = 19 → s.store.owed = false → s.store.queue = head :: rest →
    ∃ t, exec (.storeAttemptComplete .good) s = .next t ∧
      t.store.mode = .writing head (recordImage head (t.kit head)) 1 ∧
      (rest.length < 31 ∨ (∀ q, s.wants q = none) →
        t.store.queue = rest ∧ t.store.rotation = s.store.rotation ∧ t.roster = s.roster) ∧
      (rest.length = 31 → ∀ q j, s.firstFrom s.store.rotation = some q → s.wants q = some j → j ∉ rest →
        (∀ kit, s.requestMakes q = some kit → (∀ q', q' ≠ q → s.wants q' ≠ some j) →
          t.store.queue = rest ++ [j] ∧ t.store.rotation = q.next ∧ kit.sameStored (t.kit j) ∧
          ∀ i, i ≠ j → (s.kit i).sameStored (t.kit i)) ∧
        (s.requestMakes q = none → (∀ first q', s.handler ≠ .stalled first (some q')) →
          ((∀ q', q' ≠ q → s.wants q' = none) →
            t.store.queue = rest ∧ t.store.rotation = q.next ∧ ∀ i, (s.kit i).sameStored (t.kit i)) ∧
          ∀ q' j' kit, q' ≠ q → s.wants q' = some j' → s.requestMakes q' = some kit → j' ∉ rest →
            (∀ q'', q'' ≠ q' → s.wants q'' ≠ some j') → (∀ q'', q'' ≠ q → q'' ≠ q' → s.wants q'' = none) →
            t.store.queue = rest ++ [j'] ∧ t.store.rotation = q'.next ∧ kit.sameStored (t.kit j') ∧
            ∀ i, i ≠ j' → (s.kit i).sameStored (t.kit i)))

/-- A write attempt, of a record or of the settings block, that read back something else, or whose memory was in error or did
not answer: the first and the second start another attempt with the same image and raise STORE RETRIES; the third is a store
fault, which stops the controller, posts STORE FAULT with the kit or the mark "settings", ends a walk with its GRACE DONE marked
aborted, discards the preparation, answers the command in hand FAULTED, SAVE SETTINGS among them, and takes the part to
FAULTED, with the dirty queue and every record as they stood (R13, R144, R148, R151, R152). The attempt leaves every byte of
the memory outside the place it wrote as it was, which is the model's choice (assumption 24); that STORE FAULT comes before the
other notices of the act is its choice too (assumption 29). -/
def Obligations.ThirdFailedAttemptFaultsThePart : Prop :=
  ∀ (s : State) (target : StoreTarget) (image : List Byte) (n : Nat) (c : Instr) (inError : Bool), s.clocked = true →
    let attempt (n : Nat) : StoreMode := match target with
      | .kit k => .writing k image n
      | .settings => .saving image n
    let place : Nat × Nat := match target with
      | .kit k => (64 + 19 * k, 19)
      | .settings => (0, 64)
    let failed : NoticeKind × Option Nat := match target with
      | .kit k => (.storeFault false inError, some k)
      | .settings => (.storeFault true inError, none)
    let notice (n : NoticeKind × Option Nat) : Notice :=
      { kind := n.1, dh := s.clock.dh, cycle := s.clock.cycle, kit := n.2 }
    s.store.mode = attempt n →
    (∃ bs, c = .storeAttemptComplete (.readBack bs) ∧ bs.length = place.2 ∧ bs ≠ image ∧ inError = false) ∨
      (∃ left, (c = .storeAttemptComplete (.inError left) ∨ c = .storeMemoryTimeout left) ∧ inError = true) →
    ∃ t, exec c s = .next t ∧ s.memoryKeptBut t place.1 place.2 ∧ t.store.queue = s.store.queue ∧
      (∀ j, (s.kit j).sameStored (t.kit j)) ∧
      (n < 3 → t.store.mode = attempt (n + 1) ∧ t.link = s.link.raised .storeRetries) ∧
      (3 ≤ n → t.store.mode = .stopped target ∧ t.link.op = .faulted ∧ t.walk = none ∧ t.builder.preparing = none ∧
        t.builder.ready = none ∧ t.builder.onAir = s.builder.onAir ∧ t.handler = .idle ∧ t.link.hand = none ∧
        (∀ k, target = .kit k → t.unsaved k = true) ∧
        (s.walk = none → s.link.notices.length < 32 → s.link.notices ++ [notice failed] <+: t.link.notices) ∧
        (∀ w, s.walk = some w → s.link.notices.length < 31 → s.link.notices ++
          [notice failed, notice (.graceDone w.number w.changed w.next true, none)] <+: t.link.notices) ∧
        (s.link.hand = none → t.link.replies = s.link.replies) ∧
        ∀ h, s.link.hand = some h → t.link.replies = s.link.replies ++
          [replyTo h.kind h.tag .faulted (if h.kind = .enrolBlock then be1 h.enrolled else [])])

/-- A durable reply is sent when the last write it waits for is verified, and not before: the verified write of the last
record a reckoned command waits for answers it with the status and figures fixed at reckoning, while one that leaves
another write still to be verified, this record's next one included, leaves the command in hand. The verified settings
write answers SAVE SETTINGS the same way (R28, R30, R148, R150, R152). -/
def Obligations.DurableReplyFollowsTheVerifiedWrite : Prop :=
  (∀ (s : State) (k : Nat) (image : List Byte) (n : Nat) (h : Hand), s.live = true → s.store.mode = .writing k image n →
    image.length = 19 → s.link.hand = some h → h.reckoned = true → h.settings = false →
    let reply := replyTo h.kind h.tag h.status (h.content ++ if h.kind = .enrolBlock then be1 h.enrolled else [])
    ∃ t, exec (.storeAttemptComplete .good) s = .next t ∧
      ((∀ a ∈ h.awaits, a = (k, true)) → t.link.hand = none ∧ t.link.replies = s.link.replies ++ [reply] ∧
        t.link.copy = if h.tag = 0 then none
          else some { kind := h.kind, tag := h.tag, payload := h.payload, reply := reply }) ∧
      ((∃ a ∈ h.awaits, a ≠ (k, true)) → t.link.replies = s.link.replies ∧ t.link.copy = s.link.copy ∧
        ∃ h', t.link.hand = some h' ∧ h'.kind = h.kind ∧ h'.tag = h.tag ∧ h'.payload = h.payload ∧
          h'.status = h.status ∧ h'.content = h.content)) ∧
  ∀ (s : State) (image : List Byte) (n : Nat) (h : Hand), s.live = true → s.store.mode = .saving image n →
    image.length = 64 → s.link.hand = some h → h.reckoned = true → h.settings = true → h.awaits = [] →
    h.kind ≠ .enrolBlock →
    ∃ t, exec (.storeAttemptComplete .good) s = .next t ∧ t.store.owed = false ∧ readRun t.store.cells 0 64 = image ∧
      s.memoryKeptBut t 0 64 ∧ t.link.hand = none ∧
      t.link.replies = s.link.replies ++ [replyTo h.kind h.tag h.status h.content]

/-! ### The load -/

/-- SETTINGS_BLOCK_READ, and STORE_MEMORY_TIMEOUT in its place: a good block gives every setting and the pattern the values
it holds; a memory in error, a failed check and a value out of range, tested in that order, give the defaults whole and post
SETTINGS LOST with the reason. The kit records are read next (R38, R75, R153, R184). -/
def Obligations.SettingsBlockReadSetsTheSettings : Prop :=
  ∀ (s : State) (c : Instr) (read : Option (List Byte)), s.clocked = true → s.store.mode = .readingSettings →
    (c = .settingsBlockRead .inError ∧ read = none) ∨ (∃ left, c = .storeMemoryTimeout left ∧ read = none) ∨
      (c = .settingsBlockRead .asStored ∧ read = some (readRun s.store.cells 0 64)) ∨
      (∃ bs, c = .settingsBlockRead (.bytes bs) ∧ bs.length = 64 ∧ read = some bs) →
    let lost (reason : Nat) : State := { s with
      settings := .default
      scheduler := { s.scheduler with pattern := defaultPattern }
      store := { s.store with mode := .readingKit 0 }
      link := s.link.posted { kind := .settingsLost reason, dh := s.clock.dh, cycle := s.clock.cycle, kit := none } }
    (read = none → exec c s = .next (lost 2)) ∧
    ∀ b, read = some b →
      let good := settingsOfBytes b
      let sound := (fieldsInRange good (field b 13 1)).all id = true ∧
        ∀ st ∈ (b.drop 14).take 16, (stepOfByte st).isSome = true
      (crcBytes (b.take 62) ≠ b.drop 62 → exec c s = .next (lost 1)) ∧
      (crcBytes (b.take 62) = b.drop 62 → ¬ sound → exec c s = .next (lost 3)) ∧
      (crcBytes (b.take 62) = b.drop 62 → sound → exec c s = .next { s with
        settings := good
        scheduler := { s.scheduler with pattern := ((b.drop 14).take 16).filterMap stepOfByte }
        store := { s.store with mode := .readingKit 0 } })

/-- KIT_RECORD_READ, and STORE_MEMORY_TIMEOUT in its place: the record is FREE when all its bytes are 0x00 or all are 0xFF,
DAMAGED when the memory is in error or its check, which includes the kit number, fails, and otherwise as its bytes say; a
DAMAGED record posts its notice. Every other record stays, the lists follow, and after record 4,095 the part enters STANDBY
(R35, R36, R74, R154, R175). -/
def Obligations.KitRecordReadSetsTheRecord : Prop :=
  ∀ (s : State) (k : Nat) (c : Instr) (read : Option (List Byte)), s.clocked = true → s.store.mode = .readingKit k →
    s.tablesCanonical = true →
    (c = .kitRecordRead .inError ∧ read = none) ∨ (∃ left, c = .storeMemoryTimeout left ∧ read = none) ∨
      (c = .kitRecordRead .asStored ∧ read = some (readRun s.store.cells (64 + 19 * k) 19)) ∨
      (∃ bs, c = .kitRecordRead (.bytes bs) ∧ bs.length = 19 ∧ read = some bs) →
    ∃ t kit, exec c s = .next t ∧ s.recordIs t k kit ∧
      (read = none → kit = .damaged) ∧
      (∀ b, read = some b →
        ((∀ x ∈ b, x = 0x00) ∨ (∀ x ∈ b, x = 0xFF) → kit = .free) ∧
        (¬ ((∀ x ∈ b, x = 0x00) ∨ (∀ x ∈ b, x = 0xFF)) → crcBytes (be2 k ++ b.take 17) ≠ b.drop 17 → kit = .damaged) ∧
        (¬ ((∀ x ∈ b, x = 0x00) ∨ (∀ x ∈ b, x = 0xFF)) → crcBytes (be2 k ++ b.take 17) = b.drop 17 →
          kit = if storedValid b then .enrolled (loadedRec b) else .damaged)) ∧
      t.store.cells = s.store.cells ∧ t.store.queue = s.store.queue ∧ t.settings = s.settings ∧ t.clock = s.clock ∧
      (k < 4095 → t.store.mode = .readingKit (k + 1) ∧ t.link.op = s.link.op) ∧
      (4095 ≤ k → t.store.mode = .idle ∧ t.link.op = .standby) ∧
      (kit = .damaged → t.link.notices = (s.link.posted
        { kind := .damaged, dh := s.clock.dh, cycle := s.clock.cycle, kit := some k }).notices) ∧
      (kit ≠ .damaged → t.link.notices = s.link.notices)

/-- The stored form of a valid enrolled kit loads back as that kit at the same place: every persisted field as it was and
every volatile one at its value after a load; the stored form of a FREE record loads as FREE. No bit of the record is
dropped (R19, R35, R36, R183). -/
def Obligations.RecordImageLoadsBack : Prop :=
  ∀ k, k ≤ 4095 → loadedKit k (recordImage k .free) = .free ∧
    ∀ r : KitRec, r.valid = true →
      (recordImage k (.enrolled r)).length = 19 ∧
      loadedKit k (recordImage k (.enrolled r)) = .enrolled
        { r with
          confirmed := none
          settled := false
          sends := 0
          unlock := false
          notify := false
          moveSent := r.moveIssue.isSome
          lastSent := none
          lastHeard := none
          missed := 0
          silentReported := false
          tamper := 0
          lastStatus := none }

/-- The settings block formed from settings in their ranges and a pattern of sixteen steps is good, and loads back as those
settings and that pattern (R152, R153, R184). -/
def Obligations.SettingsImageLoadsBack : Prop :=
  ∀ (g : Settings) (pat : List PatternStep), g.inRange = true → pat.length = 16 →
    let b := settingsImage g pat
    b.length = 64 ∧ blockFault b = none ∧ settingsOfBytes b = g ∧ patternOfBytes ((b.drop 14).take 16) = pat

/-! ### The station link -/

/-- LINK_FRAME_REJECT and LINK_GAP_EXPIRY: the receiver is WAITING, LINK REJECTS rises by 1, once, and a reject reply with
the reason joins the reply list unless it would take the last free place; a byte error in WAITING rejects nothing.
UNKNOWN_KIND_FRAME is answered UNKNOWN, or BUSY with a command in hand. REPLY_SENT takes the reply that was sent off the
list, and NOTE_PULSE_END lets NOTE follow the queue again. The command in hand is left as it was by each. The part's transmit
line sends the bits of the first reply of the list, and rests at the stop-bit level while there is none
(R156, R158 to R160, R162, R171). -/
def Obligations.LineEventsLeaveTheCommandInHand : Prop :=
  ∀ s : State,
    (∀ (r : RejectReason) (c : Instr),
      (c = .linkFrameReject r ∧ s.live = true ∧ ¬ (r = .byteError ∧ s.link.receiver = .waiting)) ∨
        (c = .linkGapExpiry ∧ r = .gap ∧ s.clocked = true ∧ s.link.receiver ≠ .waiting) →
      exec c s = .next (s.rejected r)) ∧
    (s.live = true → s.link.receiver = .waiting → exec (.linkFrameReject .byteError) s = .next s) ∧
    (∀ kind tag : Byte, s.live = true →
      exec (.unknownKindFrame kind tag) s = .next { s with link := { s.link.untaken
        { kind := kind ||| 0x80, tag := tag, payload := [if s.link.hand.isSome then 0x02 else 0x0D]
          entersLoading := false } with receiver := .waiting } }) ∧
    (∀ (speed : Bool) (r : Reply) (rest : List Reply), s.live = true → s.link.replies = r :: rest →
      ¬ (r.entersLoading = true ∧ s.link.op = .faulted) →
      exec (.replySent speed) s = .next { s with link := { s.link with replies := rest } }) ∧
    (s.link.replies = [] → ∀ i, s.linkLevel i = true) ∧
    (∀ (r : Reply) (rest : List Reply), s.link.replies = r :: rest → lineSends r.bytes s.linkLevel) ∧
    (s.clocked = true → ∃ t, exec .notePulseEnd s = .next t ∧ t = { s with link := { s.link with pulse := false } } ∧
      t.note = !s.link.notices.isEmpty)

/-- LINK_BYTE_ARRIVAL moves the frame receiver from WAITING through the length, the body and the check of a frame, and
nothing else changes before the frame's last byte; a length byte below 2 rejects the frame for LENGTH, and a last byte that
does not complete the check rejects it for CHECK (R157 to R159, R175). -/
def Obligations.LinkBytesMoveTheFrameReceiver : Prop :=
  ∀ (s : State) (b : Byte), s.live = true →
    let goes (r : Receiver) : State := { s with link := { s.link with receiver := r } }
    (s.link.receiver = .waiting → exec (.linkByteArrival b) s = .next (if b = 0xA7 then goes .length else s)) ∧
    (s.link.receiver = .length → 2 ≤ b.toNat → exec (.linkByteArrival b) s = .next (goes (.body b.toNat []))) ∧
    (s.link.receiver = .length → b.toNat < 2 → exec (.linkByteArrival b) s = .next (s.rejected .length)) ∧
    (∀ n got, s.link.receiver = .body n got → exec (.linkByteArrival b) s =
      .next (goes (if got.length + 1 < n then .body n (got ++ [b]) else .check n (got ++ [b]) none))) ∧
    (∀ n got, s.link.receiver = .check n got none →
      exec (.linkByteArrival b) s = .next (goes (.check n got (some b)))) ∧
    ∀ n got high, s.link.receiver = .check n got (some high) → crcBytes (be1 n ++ got) ≠ [high, b] →
      exec (.linkByteArrival b) s = .next (s.rejected .check)

/-- The bytes of a frame, arriving one after another on an idle receiver, come to exactly what the command they spell comes
to: the kind byte names the command, and no byte of the tag or the payload is dropped (R157, R158, R160, R175, R176). -/
def Obligations.FrameBytesAreTheCommand : Prop :=
  ∀ (k : CmdKind) (tag : Byte) (p : List Byte) (s : State), s.live = true → s.link.receiver = .waiting → p.length ≤ 253 →
    execAll ((linkFrame k.code tag p).map Instr.linkByteArrival) s = exec (commandOf k tag p) s

/-- A frame that is not taken, by the tests of R160 in their order, changes nothing but the receiver and the reply list, or
LINK REJECTS where its answer would take the last free place: BUSY with a command in hand, the copied reply for a repeat of
the last command taken, BAD LENGTH with the required length; and with eight replies waiting the frame is discarded
(R160 to R162). -/
def Obligations.FramesNotTakenChangeOnlyTheLink : Prop :=
  ∀ (k : CmdKind) (tag : Byte) (p : List Byte) (s : State), s.live = true →
    let answersWith (r : Reply) : State := { s with link := { s.link.untaken r with receiver := .waiting } }
    let repeated (c : Copy) : Prop := s.link.copy = some c ∧ c.kind = k ∧ c.tag = tag ∧ c.payload = p
    (s.link.hand.isSome = true → exec (commandOf k tag p) s = .next (answersWith (replyTo k tag .busy []))) ∧
    (∀ c, s.link.hand = none → repeated c → exec (commandOf k tag p) s = .next (answersWith c.reply)) ∧
    (s.link.hand = none → (∀ c, ¬ repeated c) → p.length ≠ requiredLength k p →
      exec (commandOf k tag p) s = .next (answersWith (replyTo k tag .badLength (be1 (requiredLength k p))))) ∧
    (s.link.hand = none → (∀ c, ¬ repeated c) → p.length = requiredLength k p → 8 ≤ s.link.replies.length →
      exec (commandOf k tag p) s =
        .next { s with link := { s.link.raised .linkRejects with receiver := .waiting } })

/-- A taken command is checked against the operating state and then, if it is gated, against the clock-set flag, before its
arguments are looked at: STATE with the operating state, or NO CLOCK, and nothing but the link changes. LOADING and CLOSING
admit four commands, FAULTED six, ON AIR all but CONFIGURE and SET CLOCK, and STANDBY all (R7, R14). -/
def Obligations.StateAndClockGateTheCommands : Prop :=
  (∀ (k : CmdKind) (tag : Byte) (p : List Byte) (s : State), s.live = true → s.link.hand = none →
    s.repeatOf k tag p = none → p.length = requiredLength k p → s.link.replies.length < 8 →
    let tail : List Byte := if k = .enrolBlock then be1 0 else []
    (admits k s.link.op = false →
      exec (commandOf k tag p) s = .next (s.answered k tag p .state (be1 s.link.op.code ++ tail))) ∧
    (admits k s.link.op = true → gated k = true → s.clock.isSet = false →
      exec (commandOf k tag p) s = .next (s.answered k tag p .noClock tail))) ∧
  (∀ k, admits k .loading = true ↔ k ∈ [CmdKind.identify, .status, .fetchNotices, .counters]) ∧
  (∀ k, admits k .closing = true ↔ k ∈ [CmdKind.identify, .status, .fetchNotices, .counters]) ∧
  (∀ k, admits k .faulted = true ↔ k ∈ [CmdKind.identify, .status, .fetchNotices, .counters, .readKit, .reset]) ∧
  (∀ k, admits k .onAir = true ↔ k ∉ [CmdKind.configure, .setClock]) ∧ (∀ k, admits k .standby = true) ∧
  ∀ k, gated k = true ↔
    k ∈ [CmdKind.enrol, .enrolBlock, .retire, .restore, .grant, .setHorizon, .withdraw, .resume, .move, .grace]

/-- IDENTIFY, taken in any state, reports the vendor and part codes, a design level of 1 to 255, the same at every time, the
capacities, the line rate in use and the operating state, and changes nothing (R164, R177). -/
def Obligations.IdentifyReportsThePart : Prop :=
  ∃ level : Nat, 1 ≤ level ∧ level ≤ 255 ∧
    ∀ (s : State) (tag : Byte) (p : List Byte), s.ready .identify tag p = true →
      exec (.identify tag p) s = .next (s.answered .identify tag p .ok
        (be2 0x7A31 ++ be2 0x0460 ++ be1 level ++ be2 4096 ++ be1 32 ++ be1 32 ++ be1 2 ++
          be1 (if s.pins.fastLine then 1 else 0) ++
          be1 (match s.link.op with | .loading => 0 | .standby => 1 | .onAir => 2 | .closing => 3 | .faulted => 4)))

/-- STATUS and READ KIT report the part as it stands and change nothing. STATUS gives the clock as 0 while it is unset, the
pending count, the dirty fill, the notices and the lost count, the DAMAGED count and the walk; with no walk the grace number is
0, and no rule gives the next index a value, which is free (assumption 40). READ KIT answers NO KIT above 4,095, and otherwise
the record's thirty-two bytes as R178 lays them out, with each absent field 0; the kit code is not among them. That the spare
bits of the last status are what the record holds of them rests on assumption 2 (R16, R19, R34, R61, R165, R177, R178, R181). -/
def Obligations.StatusAndReadKitChangeNothing : Prop :=
  (∀ (s : State) (tag : Byte) (p : List Byte), s.ready .status tag p = true → ∃ idle : Nat, idle ≤ 65535 ∧
    let c := if s.clock.isSet then be1 1 ++ be3 s.clock.dh ++ be1 s.clock.cycle ++ be1 s.clock.slot else List.replicate 6 0
    exec (.status tag p) s = .next (s.answered .status tag p .ok (be1 s.link.op.code ++ c ++
      be2 (s.roster.filter fun e => match e.2 with | .enrolled r => !r.settled | _ => false).length ++
      be1 s.store.queue.length ++ be1 s.link.notices.length ++ be1 s.link.lost ++
      be2 (s.roster.filter fun e => match e.2 with | .damaged => true | _ => false).length ++
      match s.walk with
      | some w => be1 w.number ++ be2 w.next
      | none => be1 0 ++ be2 idle))) ∧
  ∀ (s : State) (tag : Byte) (p : List Byte), s.ready .readKit tag p = true →
    let k := field p 0 2
    let unsaved := s.unsaved k
    (4096 ≤ k → exec (.readKit tag p) s = .next (s.answered .readKit tag p .noKit [])) ∧
    (k ≤ 4095 →
      ∃ body : List Byte, body.length = 32 ∧ exec (.readKit tag p) s = .next (s.answered .readKit tag p .ok body) ∧
        (s.kit k = .free → body = be1 0 ++ [0] ++ be1 (128 * unsaved.toNat) ++ List.replicate 29 0) ∧
        (s.kit k = .damaged → body = be1 3 ++ [0] ++ be1 (128 * unsaved.toNat) ++ List.replicate 29 0) ∧
        ∀ r, s.kit k = .enrolled r → body =
          be1 (if r.heldHours = none then 1 else 2) ++ [0] ++
          be1 (1 + 2 * r.moveIssue.isSome.toNat + 4 * r.heldHours.isSome.toNat + 8 * r.confirmed.isSome.toNat +
            16 * r.lastSent.isSome.toNat + 32 * r.lastHeard.isSome.toNat + 64 * r.lastStatus.isSome.toNat +
            128 * unsaved.toNat) ++
          be1 (r.answers.toNat + 2 * (!r.settled).toNat + 4 * r.unlock.toNat + 8 * r.notify.toNat +
            16 * r.moveSent.toNat + 32 * r.silentReported.toNat) ++
          be1 r.listen ++ be1 r.ordered ++
          (match r.moveIssue with | some mi => be2 mi.toNat | none => [0, 0]) ++ be3 r.horizon ++
          (match r.heldHours with | some h => be2 h | none => [0, 0]) ++ be2 r.issue.toNat ++ be1 r.mark ++
          (match r.confirmed with | some i => be2 i.toNat | none => [0, 0]) ++ be1 r.sends ++
          (match r.lastSent with | some c => be4 c | none => [0, 0, 0, 0]) ++
          (match r.lastHeard with | some c => be4 c | none => [0, 0, 0, 0]) ++ be1 r.missed ++ be1 r.tamper ++
          (match r.lastStatus with
            | some st => be1 (128 * st.lamp.toNat + 64 * st.lid.toNat + 8 * st.spare.toNat + st.battery.toNat)
            | none => [0]) ++ [0, 0])

/-- FETCH NOTICES returns the oldest notices, up to eight, in their order, with the lost count and the number left: what it
returns leaves the queue, the lost count is 0, and in pulse mode a fetch that leaves notices deasserts NOTE. That a pulse
already running is not ended by a fetch with pulse mode off is deduced (assumption 30). COUNTERS reports the sixteen counters
in their order and zeroes them if the flag is set (R168, R169, R171, R173, R177, R182). -/
def Obligations.FetchNoticesAndCountersReportAndClear : Prop :=
  (∀ (s : State) (tag : Byte) (p : List Byte), s.ready .fetchNotices tag p = true →
    let out := s.link.notices.take 8
    let left := s.link.notices.drop 8
    ∃ t, exec (.fetchNotices tag p) s = .next t ∧
      t = (let u := s.answered .fetchNotices tag p .ok
              (be1 s.link.lost ++ be1 left.length ++ be1 out.length ++ (out.map Notice.bytes).flatten)
           { u with link := { u.link with
               notices := left, lost := 0, pulse := s.link.pulse || (s.settings.notePulse && !left.isEmpty) } }) ∧
      (s.settings.notePulse = true → t.note = false) ∧
      (s.link.pulse = false → s.settings.notePulse = false → t.note = !left.isEmpty) ∧
      ∀ n ∈ out, n.bytes.length = 12) ∧
  ∀ (s : State) (tag : Byte) (p : List Byte), s.ready .counters tag p = true →
    exec (.counters tag p) s = .next
      (let u := s.answered .counters tag p .ok ((s.link.counters.toList.map be2).flatten)
       { u with link := { u.link with counters := if field p 0 1 = 0 then s.link.counters else .zero } })

/-- CONFIGURE replaces every setting in one act, or answers RANGE with the number of the lowest field out of its range and
keeps every setting; LOAD PATTERN replaces the sixteen steps and sets the pointer to 0, or answers RANGE with the number of
the lowest step that names no class and leaves pattern and pointer. No record, list or counter changes
(R78, R166, R167, R177). -/
def Obligations.ConfigureAndLoadPatternReplaceTheWhole : Prop :=
  (∀ (s : State) (tag : Byte) (p : List Byte), s.ready .configure tag p = true →
    let fields := (decide (1 ≤ field p 0 2)) :: fieldsInRange (settingsOfBytes p) (field p 13 1)
    (fields.all id = true → exec (.configure tag p) s =
      .next { s.answered .configure tag p .ok [] with settings := settingsOfBytes p }) ∧
    ∀ i, i < 11 → fields[i]? = some false → (∀ j, j < i → fields[j]? = some true) →
      exec (.configure tag p) s = .next (s.answered .configure tag p .range (be1 (i + 1)))) ∧
  ∀ (s : State) (tag : Byte) (p : List Byte), s.ready .loadPattern tag p = true →
    ((∀ b ∈ p, (stepOfByte b).isSome = true) → ∃ t, exec (.loadPattern tag p) s = .next t ∧
      t = { s.answered .loadPattern tag p .ok [] with
            scheduler := { s.scheduler with pattern := p.filterMap stepOfByte, pointer := 0 } } ∧
      t.scheduler.pattern.length = 16) ∧
    ∀ i b, p[i]? = some b → stepOfByte b = none → (∀ j b', j < i → p[j]? = some b' → (stepOfByte b').isSome = true) →
      exec (.loadPattern tag p) s = .next (s.answered .loadPattern tag p .range (be1 i))

/-- SAVE SETTINGS, taken: a settings write is owed, and starts at once when the controller is IDLE, with the settings block
of the settings and pattern in force as its image; a write in progress goes on. The command stays in hand with no reply
until the write is verified, and nothing else changes (R147, R150, R152). -/
def Obligations.SaveSettingsOwesTheSettingsWrite : Prop :=
  ∀ (s : State) (tag : Byte) (p : List Byte), s.ready .saveSettings tag p = true →
    ∃ t h, exec (.saveSettings tag p) s = .next t ∧
      t = { s with
            store := { s.store with owed := true, mode := t.store.mode }
            link := { s.link with receiver := .waiting, hand := some h } } ∧
      h.kind = .saveSettings ∧ h.tag = tag ∧ h.payload = p ∧ h.settings = true ∧ h.reckoned = true ∧ h.awaits = [] ∧
      h.status = .ok ∧ h.content = [] ∧
      (s.store.mode = .idle → t.store.mode = .saving (settingsImage s.settings s.scheduler.pattern) 1) ∧
      (s.store.mode ≠ .idle → t.store.mode = s.store.mode)

/-- SET CLOCK, taken in STANDBY: while the radio is not quiet it is answered STATE, and a cycle above 59 RANGE; otherwise
hour and cycle take the given values, the slot is 0, the end-of-count flag is clear, the clock is set and its timer at the
start of slot 0. No record, list, stamp or walk changes (R5, R6, R177). That STATE is tested before RANGE is the model's choice
(assumption 31), and that the radio is quiet before the first sub-window of a slot whose reply window is still to be searched
is deduced (assumption 27). -/
def Obligations.SetClockSetsTheClock : Prop :=
  ∀ (s : State) (tag : Byte) (p : List Byte), s.ready .setClock tag p = true →
    let quiet := s.builder.onAir = none ∧ s.builder.rolls = [] ∧ s.framer.window = none
    (¬ quiet → exec (.setClock tag p) s = .next (s.answered .setClock tag p .state (be1 s.link.op.code))) ∧
    (quiet → 59 < field p 3 1 → exec (.setClock tag p) s = .next (s.answered .setClock tag p .range [])) ∧
    (quiet → field p 3 1 ≤ 59 → exec (.setClock tag p) s = .next { s.answered .setClock tag p .ok [] with
      clock := { isSet := true, dh := field p 0 3, cycle := field p 3 1, slot := 0, endOfCount := false
                 timer := .boundary, tickDue := false } })

/-- START, STOP and RESET, taken. START in STANDBY with the clock set and a district code enters ON AIR and, with both
buffers free, prepares for the slot after the current one: the scheduler and the PREPARING buffer are those of the selection act
for that slot (`State.selects`, R79 to R83), as at a downlink window end; with a buffer PREPARING or READY it prepares nothing.
Without clock or code it is answered NOT READY, and in ON AIR STATE. STOP in ON AIR enters STANDBY and discards what was
prepared, and in STANDBY is answered STATE. RESET from STANDBY or ON AIR enters CLOSING with its reply made first, the
preparation discarded and a walk ended or its abort flag set; from FAULTED it stays until its reply has been sent. A burst on
air, the rolls, the clock, the records, the lists and the idle counters are left as they were by STOP and RESET (R9 to R11, R79
to R84, R91, R92, R98, R177). That an answering kit with sends at the budget and no last sent is not eligible is deduced
(assumption 28). -/
def Obligations.StartStopAndResetChangeTheState : Prop :=
  (∀ (s : State) (tag : Byte) (p : List Byte), s.ready .start tag p = true →
    (s.link.op = .onAir → exec (.start tag p) s = .next (s.answered .start tag p .state (be1 2))) ∧
    (s.link.op = .standby → s.clock.isSet = false ∨ s.settings.district = 0 →
      exec (.start tag p) s = .next (s.answered .start tag p .notReady [])) ∧
    (s.link.op = .standby → s.clock.isSet = true → s.settings.district ≠ 0 →
      ∃ t, exec (.start tag p) s = .next t ∧
        t = { s with
              link := { (s.answered .start tag p .ok []).link with op := .onAir }
              scheduler := t.scheduler
              builder := { s.builder with preparing := t.builder.preparing } } ∧
        t.scheduler.lists = s.scheduler.lists ∧
        (s.builder.preparing = none → s.builder.ready = none →
          t.scheduler.preparedFor = some s.clock.advance.slot ∧
          (∀ b, t.builder.preparing = some b → b.slot = s.clock.advance.slot ∧ b.cycle = s.clock.advance.cycle ∧
            b.dh = s.clock.advance.dh ∧ b.entries.length ≤ s.settings.packing) ∧
          (s.tablesCanonical = true → s.listsFollow → s.scheduler.patternWhole = true →
            s.selects t.scheduler t.builder.preparing)) ∧
        (s.builder.preparing ≠ none ∨ s.builder.ready ≠ none →
          t.scheduler = s.scheduler ∧ t.builder = s.builder))) ∧
  (∀ (s : State) (tag : Byte) (p : List Byte), s.ready .stop tag p = true →
    let u := s.answered .stop tag p .ok []
    (s.link.op = .standby → exec (.stop tag p) s = .next (s.answered .stop tag p .state (be1 1))) ∧
    (s.link.op = .onAir → exec (.stop tag p) s = .next { u with
      link := { u.link with op := .standby }
      builder := { s.builder with preparing := none, ready := none }
      scheduler := { s.scheduler with preparedFor := none } })) ∧
  ∀ (s : State) (tag : Byte) (p : List Byte), s.ready .reset tag p = true →
    (s.link.op = .faulted → exec (.reset tag p) s = .next { s with link :=
      { s.link.replied .reset tag p { replyTo .reset tag .ok [] with entersLoading := true } with
        receiver := .waiting } }) ∧
    (s.link.op ≠ .faulted →
      let u := s.answered .reset tag p .ok []
      let closed (w : Option Walk) (l : Link) : State := { u with
        link := { l with op := .closing }
        walk := w
        builder := { s.builder with preparing := none, ready := none }
        scheduler := { s.scheduler with preparedFor := none } }
      exec (.reset tag p) s = .next (match s.walk with
        | none => closed none u.link
        | some w =>
          if w.inHand then closed (some { w with abort := true }) u.link
          else closed none (u.link.posted { kind := .graceDone w.number w.changed w.next true, dh := s.clock.dh
                                            cycle := s.clock.cycle, kit := none })))

/-! ### Commands on a record -/

/-- ENROL of a FREE kit and RESTORE of a DAMAGED one, with slot and horizon in range, set the record ACTIVE and PENDING with
the code, kind, slot, horizon and issue given and every other field at its first value; RETIRE of any kit that is not FREE
makes it FREE. Each record takes its places in the lists, its index waits for its write, and the reply is held until then
(R26 to R28, R31, R33, R73). -/
def Obligations.EnrolRestoreAndRetireSetTheRecord : Prop :=
  (∀ (s : State) (c : CmdKind) (tag : Byte) (p : List Byte), s.ready c tag p = true → s.tablesCanonical = true →
    (c = .enrol ∧ s.kit (field p 0 2) = .free) ∨ (c = .restore ∧ s.kit (field p 0 2) = .damaged) →
    field p 0 2 ≤ 4095 → s.roomFor (field p 0 2) = true → field p 7 1 ≤ 119 →
    field p 8 3 ≤ min (s.clock.dh + s.settings.advance) 16777215 →
    ∃ t, exec (commandOf c tag p) s = .next t ∧ s.applied t c tag p (field p 0 2)
      (.enrolled
        { code := BitVec.ofNat 32 (field p 2 4)
          answers := field p 6 1 != 0
          listen := field p 7 1
          ordered := field p 7 1
          moveIssue := none
          horizon := field p 8 3
          heldHours := none
          issue := BitVec.ofNat 16 (field p 11 2)
          mark := 0
          confirmed := none
          settled := false
          sends := 0
          unlock := false
          notify := false
          moveSent := false
          lastSent := none
          lastHeard := none
          missed := 0
          silentReported := false
          tamper := 0
          lastStatus := none }) .ok []) ∧
  ∀ (s : State) (tag : Byte) (p : List Byte), s.ready .retire tag p = true → s.tablesCanonical = true →
    field p 0 2 ≤ 4095 → s.roomFor (field p 0 2) = true → s.kit (field p 0 2) ≠ .free →
    ∃ t, exec (.retire tag p) s = .next t ∧ s.applied t .retire tag p (field p 0 2) .free .ok []

/-- GRANT of h hours to an ACTIVE kit: from the base, which is the horizon of a running kit and the district hour for a
locked one, to the smaller of base + h and the ceiling, never below the old horizon; the accepted hours are the rise above
the base. With hours accepted the horizon is set, the issue steps, the kit is PENDING with sends 0, unlock is set for a kit
that was locked, notify takes the flag, and the reply is OK or CAPPED with the figures; with none, nothing changes and
CAPPED is answered at once. The accepted hours lie in 0..h and are 0 exactly when the base is at or above the ceiling
(R22, R23, R39, R41, R43, R44, R58). -/
def Obligations.GrantRaisesTheHorizonUpToTheCeiling : Prop :=
  ∀ (s : State) (tag : Byte) (p : List Byte) (r : KitRec), s.ready .grant tag p = true → s.tablesCanonical = true →
    field p 0 2 ≤ 4095 → s.roomFor (field p 0 2) = true → s.kit (field p 0 2) = .enrolled r → r.heldHours = none →
    1 ≤ field p 2 2 → field p 2 2 ≤ 8760 →
    let h := field p 2 2
    let c := min (s.clock.dh + s.settings.advance) 16777215
    let base := if s.clock.dh < r.horizon then r.horizon else s.clock.dh
    let raised := max r.horizon (min (base + h) c)
    let accepted := if base < raised then raised - base else 0
    accepted ≤ h ∧ (accepted = 0 ↔ c ≤ base) ∧
    (0 < accepted → ∃ t, exec (.grant tag p) s = .next t ∧ s.applied t .grant tag p (field p 0 2)
      (.enrolled
        { r with
          horizon := raised
          issue := r.issue + 1
          settled := false
          sends := 0
          unlock := if r.horizon ≤ s.clock.dh then true else r.unlock
          notify := field p 4 1 != 0 })
      (if accepted = h then .ok else .capped)
      (be2 accepted ++ be1 1 ++ be3 raised ++ be2 (r.issue + 1).toNat ++ be3 c)) ∧
    (accepted = 0 → exec (.grant tag p) s = .next (s.answered .grant tag p .capped
      (be2 0 ++ be1 1 ++ be3 r.horizon ++ be2 r.issue.toNat ++ be3 c)))

/-- GRANT of h hours to a HELD kit adds to the held hours, up to the advance limit and never below the old figure; the order,
the delivery fields, unlock and notify stay, so nothing new goes on air. With no hours accepted nothing changes and the
reply is sent at once (R22, R45, R58, R59). -/
def Obligations.GrantToAHeldKitAddsHeldHours : Prop :=
  ∀ (s : State) (tag : Byte) (p : List Byte) (r : KitRec) (held : Nat), s.ready .grant tag p = true →
    s.tablesCanonical = true → field p 0 2 ≤ 4095 → s.roomFor (field p 0 2) = true →
    s.kit (field p 0 2) = .enrolled r → r.heldHours = some held → 1 ≤ field p 2 2 → field p 2 2 ≤ 8760 →
    let h := field p 2 2
    let c := min (s.clock.dh + s.settings.advance) 16777215
    let held' := max held (min (held + h) s.settings.advance)
    let accepted := held' - held
    accepted ≤ h ∧
    (0 < accepted → ∃ t, exec (.grant tag p) s = .next t ∧ s.applied t .grant tag p (field p 0 2)
      (.enrolled { r with heldHours := some held' }) (if accepted = h then .ok else .capped)
      (be2 accepted ++ be1 2 ++ be3 held' ++ be2 r.issue.toNat ++ be3 c)) ∧
    (accepted = 0 → exec (.grant tag p) s = .next (s.answered .grant tag p .capped
      (be2 0 ++ be1 2 ++ be3 held ++ be2 r.issue.toNat ++ be3 c)))

/-- SET HORIZON of an ACTIVE kit to a value up to the ceiling places the horizon there: the issue steps, the kit is PENDING
with sends 0, unlock is set from locked to running, cleared at or below the district hour, and kept otherwise; a value equal
to the horizon changes nothing and is answered at once; a value above the ceiling is answered RANGE with the ceiling
(R22, R23, R40, R46, R47, R58). -/
def Obligations.SetHorizonPlacesTheHorizon : Prop :=
  ∀ (s : State) (tag : Byte) (p : List Byte) (r : KitRec), s.ready .setHorizon tag p = true → s.tablesCanonical = true →
    field p 0 2 ≤ 4095 → s.roomFor (field p 0 2) = true → s.kit (field p 0 2) = .enrolled r → r.heldHours = none →
    let v := field p 2 3
    let c := min (s.clock.dh + s.settings.advance) 16777215
    (c < v → exec (.setHorizon tag p) s = .next (s.answered .setHorizon tag p .range (be3 c))) ∧
    (v ≤ c → v = r.horizon → exec (.setHorizon tag p) s = .next (s.answered .setHorizon tag p .ok
      (be3 r.horizon ++ be2 r.issue.toNat ++ be3 c))) ∧
    (v ≤ c → v ≠ r.horizon → ∃ t, exec (.setHorizon tag p) s = .next t ∧ s.applied t .setHorizon tag p (field p 0 2)
      (.enrolled
        { r with
          horizon := v
          issue := r.issue + 1
          settled := false
          sends := 0
          unlock := if v ≤ s.clock.dh then false else if r.horizon ≤ s.clock.dh then true else r.unlock
          notify := field p 5 1 != 0 }) .ok (be3 v ++ be2 (r.issue + 1).toNat ++ be3 c))

/-- WITHDRAW of an ACTIVE kit holds its remaining hours, at most 17,520, reports the rest as lost, and sets the horizon to
the district hour with unlock clear; RESUME of a HELD kit lays its held hours out from the district hour up to the ceiling,
reports the rest as lost, and sets unlock if the kit then runs. Both step the issue and leave the kit PENDING with sends 0
(R22, R23, R48 to R51, R58). -/
def Obligations.WithdrawHoldsAndResumeReturnsTheHours : Prop :=
  (∀ (s : State) (tag : Byte) (p : List Byte) (r : KitRec), s.ready .withdraw tag p = true → s.tablesCanonical = true →
    field p 0 2 ≤ 4095 → s.roomFor (field p 0 2) = true → s.kit (field p 0 2) = .enrolled r → r.heldHours = none →
    let remaining := if s.clock.dh < r.horizon then r.horizon - s.clock.dh else 0
    let held := min remaining 17520
    ∃ t, exec (.withdraw tag p) s = .next t ∧ s.applied t .withdraw tag p (field p 0 2)
      (.enrolled
        { r with
          horizon := s.clock.dh
          heldHours := some held
          issue := r.issue + 1
          settled := false
          sends := 0
          unlock := false
          notify := field p 2 1 != 0 }) .ok
      (be2 held ++ be3 (remaining - held) ++ be3 s.clock.dh ++ be2 (r.issue + 1).toNat)) ∧
  ∀ (s : State) (tag : Byte) (p : List Byte) (r : KitRec) (held : Nat), s.ready .resume tag p = true →
    s.tablesCanonical = true → field p 0 2 ≤ 4095 → s.roomFor (field p 0 2) = true →
    s.kit (field p 0 2) = .enrolled r → r.heldHours = some held →
    let c := min (s.clock.dh + s.settings.advance) 16777215
    let horizon := min (s.clock.dh + held) c
    ∃ t, exec (.resume tag p) s = .next t ∧ s.applied t .resume tag p (field p 0 2)
      (.enrolled
        { r with
          horizon := horizon
          heldHours := none
          issue := r.issue + 1
          settled := false
          sends := 0
          unlock := decide (s.clock.dh < horizon)
          notify := field p 2 1 != 0 }) .ok
      (be3 horizon ++ be3 (s.clock.dh + held - horizon) ++ be2 (r.issue + 1).toNat ++ be3 c)

/-- MOVE of an answering kit, with the uplink option on and no move pending, to another slot: the ordered slot becomes the
new slot, the issue steps and is the move issue, move sent is clear, the kit is PENDING with sends 0, and unlock is cleared
if the kit is locked or HELD. The listen slot stays (R22, R23, R131, R132). -/
def Obligations.MoveOrdersTheNewSlot : Prop :=
  ∀ (s : State) (tag : Byte) (p : List Byte) (r : KitRec), s.ready .move tag p = true → s.tablesCanonical = true →
    field p 0 2 ≤ 4095 → s.roomFor (field p 0 2) = true → s.kit (field p 0 2) = .enrolled r →
    r.answers = true → s.settings.uplink = true → r.moveIssue = none → field p 2 1 ≤ 119 → field p 2 1 ≠ r.listen →
    ∃ t, exec (.move tag p) s = .next t ∧ s.applied t .move tag p (field p 0 2)
      (.enrolled
        { r with
          ordered := field p 2 1
          moveIssue := some (r.issue + 1)
          moveSent := false
          issue := r.issue + 1
          settled := false
          sends := 0
          unlock := if r.heldHours.isSome || decide (r.horizon ≤ s.clock.dh) then false else r.unlock
          notify := field p 3 1 != 0 }) .ok
      (be2 (r.issue + 1).toNat ++ be2 (r.issue + 1).toNat ++ be1 r.listen ++ be1 (field p 2 1))

/-- ENROL BLOCK, taken with a count of 1 to 20 and its first kit FREE and in range, enrols that kit and goes on to the next
when that one's request is reckoned; a count outside that range is answered RANGE with none enrolled; a first kit that
cannot be enrolled is answered with its refusal and none enrolled. That the first record is reckoned in the command's own
act is the model's choice (assumption 23) (R26, R29, R30, R41). -/
def Obligations.EnrolBlockEnrolsOneKitAtATime : Prop :=
  ∀ (s : State) (tag : Byte) (p : List Byte), s.ready .enrolBlock tag p = true → s.tablesCanonical = true →
    let k := field p 0 2
    let count := field p 2 1
    let c := min (s.clock.dh + s.settings.advance) 16777215
    (count = 0 ∨ 20 < count → exec (.enrolBlock tag p) s = .next (s.answered .enrolBlock tag p .range (be1 0))) ∧
    (1 ≤ count → count ≤ 20 → 4096 ≤ k →
      exec (.enrolBlock tag p) s = .next (s.answered .enrolBlock tag p .noKit (be1 0))) ∧
    (1 ≤ count → count ≤ 20 → k ≤ 4095 → s.roomFor k = true →
      (s.kit k ≠ .free →
        exec (.enrolBlock tag p) s = .next (s.answered .enrolBlock tag p .kitState (be1 (s.kit k).stateCode ++ be1 0))) ∧
      (s.kit k = .free → 119 < field p 8 1 ∨ c < field p 9 3 →
        exec (.enrolBlock tag p) s = .next (s.answered .enrolBlock tag p .range (be1 0))) ∧
      (s.kit k = .free → field p 8 1 ≤ 119 → field p 9 3 ≤ c →
        ∃ t h, exec (.enrolBlock tag p) s = .next t ∧ s.onlyRecords t ∧ s.recordIs t k (.enrolled
            (enrolledRec (BitVec.ofNat 32 (field p 3 4)) (field p 7 1 != 0) (field p 8 1) (field p 9 3)
              (BitVec.ofNat 16 (field p 12 2)))) ∧
          t.unsaved k = true ∧ t.link.hand = some h ∧ h.kind = .enrolBlock ∧ h.tag = tag ∧ h.payload = p ∧
          h.enrolled = 1 ∧ h.awaits.map Prod.fst = [k] ∧ (h.reckoned = true ↔ count = 1 ∨ k = 4095) ∧
          (h.reckoned = true → h.status = if count = 1 then .ok else .noKit)))

/-- COMMAND_RECKONING: a command in hand that waits for the dirty queue is reckoned once the queue can take its index,
against the record, the clock and the settings as they stand then; a new record is applied with the reply held, a refusal or
a request that changes nothing is answered at that moment, and while the queue is full nothing changes. The next record of
an ENROL BLOCK is enrolled the same way, and the records it waits for are those before it and this one. The block then ends
exactly when the count is reached, with status OK, or the next kit number is above 4,095, with NO KIT; its reply is held until
the writes are verified. A record that cannot be enrolled stops the block with its refusal, KIT STATE or RANGE, which is
answered with the number enrolled so far at once when no write is waited for, and is held for that reply otherwise (R24, R26,
R29, R30, R41, R146). -/
def Obligations.CommandReckoningAppliesOrAnswers : Prop :=
  ∀ (s : State) (h : Hand), s.live = true → s.link.hand = some h → h.reckoned = false → s.tablesCanonical = true →
    let k := field h.payload 0 2
    let c := min (s.clock.dh + s.settings.advance) 16777215
    (h.kind ≠ .enrolBlock →
      (s.canAccept k = false → exec .commandReckoning s = .next s) ∧
      (s.roomFor k = true →
        (∀ kit st content, commandVerdict s h.kind h.payload (s.kit k) = .apply kit st content →
          ∃ t h', exec .commandReckoning s = .next t ∧ s.onlyRecords t ∧ s.recordIs t k kit ∧ t.unsaved k = true ∧
            t.link.receiver = s.link.receiver ∧ t.link.hand = some h' ∧ h'.kind = h.kind ∧ h'.tag = h.tag ∧
            h'.payload = h.payload ∧ h'.reckoned = true ∧ h'.status = st ∧ h'.content = content ∧
            h'.awaits.map Prod.fst = [k]) ∧
        ∀ st content, commandVerdict s h.kind h.payload (s.kit k) = .answer st content →
          exec .commandReckoning s = .next { s with
            link := s.link.replied h.kind h.tag h.payload (replyTo h.kind h.tag st content) })) ∧
    (h.kind = .enrolBlock →
      let kit := s.kit (k + h.enrolled)
      let args := blockArgs h.payload h.enrolled
      (s.canAccept (k + h.enrolled) = false → exec .commandReckoning s = .next s) ∧
      (s.roomFor (k + h.enrolled) = true →
        (kit = .free → field args 5 1 ≤ 119 → field args 6 3 ≤ c →
          ∃ t h', exec .commandReckoning s = .next t ∧ s.onlyRecords t ∧
            s.recordIs t (k + h.enrolled) (.enrolled (enrolArgs args)) ∧
            t.unsaved (k + h.enrolled) = true ∧ t.link.hand = some h' ∧ h'.kind = .enrolBlock ∧ h'.tag = h.tag ∧
            h'.payload = h.payload ∧ h'.settings = h.settings ∧ h'.enrolled = h.enrolled + 1 ∧
            h'.awaits.map Prod.fst = h.awaits.map Prod.fst ++ [k + h.enrolled] ∧
            (h'.reckoned = true ↔ field h.payload 2 1 ≤ h.enrolled + 1 ∨ 4095 ≤ k + h.enrolled) ∧
            (h'.reckoned = true → h'.content = [] ∧
              h'.status = if field h.payload 2 1 ≤ h.enrolled + 1 then .ok else .noKit)) ∧
        ∀ st content,
          (kit ≠ .free ∧ st = .kitState ∧ content = be1 kit.stateCode) ∨
            (kit = .free ∧ (119 < field args 5 1 ∨ c < field args 6 3) ∧ st = .range ∧ content = []) →
          (h.awaits = [] → h.settings = false → exec .commandReckoning s = .next { s with
            link := s.link.replied .enrolBlock h.tag h.payload
              (replyTo .enrolBlock h.tag st (content ++ be1 h.enrolled)) }) ∧
          (h.awaits ≠ [] → exec .commandReckoning s = .next { s with
            link := { s.link with hand := some { h with reckoned := true, status := st, content := content } } })))

/-- What a command on a record refuses, test by test: NO KIT above 4,095; KIT STATE with the state found; ONE WAY for MOVE to
a one-way kit or with the uplink option off; RANGE for an argument out of its range. A refused command changes nothing but
the link, and its notify flag has no effect (R17, R26, R27, R31, R33, R37, R42, R46, R48, R50, R131, R177). -/
def Obligations.RefusalsChangeNoRecord : Prop :=
  ∀ (s : State) (c : CmdKind) (tag : Byte) (p : List Byte), s.ready c tag p = true →
    c ∈ [CmdKind.enrol, .restore, .retire, .grant, .setHorizon, .withdraw, .resume, .move] →
    let k := field p 0 2
    let refused (st : Status) (content : List Byte) : Prop :=
      exec (commandOf c tag p) s = .next (s.answered c tag p st content)
    let inState (kit : Kit) : Prop := match c, kit with
      | .enrol, .free | .restore, .damaged => True
      | .retire, .damaged | .retire, .enrolled _ | .grant, .enrolled _ | .move, .enrolled _ => True
      | .setHorizon, .enrolled r | .withdraw, .enrolled r => r.heldHours = none
      | .resume, .enrolled r => r.heldHours ≠ none
      | _, _ => False
    (4096 ≤ k → refused .noKit []) ∧
    (k ≤ 4095 → s.roomFor k = true →
      (¬ inState (s.kit k) → refused .kitState (be1 (s.kit k).stateCode)) ∧
      (inState (s.kit k) →
        (c = .enrol ∨ c = .restore →
          119 < field p 7 1 ∨ min (s.clock.dh + s.settings.advance) 16777215 < field p 8 3 → refused .range []) ∧
        (c = .grant → field p 2 2 = 0 ∨ 8760 < field p 2 2 → refused .range []) ∧
        ∀ r, c = .move → s.kit k = .enrolled r →
          (r.answers = false ∨ s.settings.uplink = false → refused .oneWay []) ∧
          (r.answers = true → s.settings.uplink = true → r.moveIssue ≠ none →
            refused .kitState (be1 (s.kit k).stateCode)) ∧
          (r.answers = true → s.settings.uplink = true → r.moveIssue = none →
            119 < field p 2 1 ∨ field p 2 1 = r.listen → refused .range [])))

/-! ### Invariants that every step keeps -/

/-- Every step keeps the capacities: the dirty queue, the notice queue and its lost count, the receive FIFO, the rolls, and
the reply list with the place kept for the command in hand (R103, R111, R145, R162, R168). -/
def Obligations.EveryStepKeepsTheCapacities : Prop :=
  ∀ s t : State, s.withinCapacities = true → step s = .next t → t.withinCapacities = true

/-- Every step keeps the clock's counters, the sixteen counters and the pattern with its pointer in their ranges
(R1, R3, R4, R78, R172). -/
def Obligations.EveryStepKeepsTheCountersInRange : Prop :=
  ∀ s t : State, step s = .next t →
    (s.clock.inRange = true → t.clock.inRange = true) ∧
    (s.link.counters.inRange = true → t.link.counters.inRange = true) ∧
    (s.scheduler.patternWhole = true → t.scheduler.patternWhole = true)

/-- Every step keeps the tables and the memory in their canonical form, so that equal contents are equal data, and no index
twice in the dirty queue (R144, R145). -/
def Obligations.EveryStepKeepsTheTablesCanonical : Prop :=
  ∀ s t : State, step s = .next t →
    (s.tablesCanonical = true → t.tablesCanonical = true) ∧ (s.queueOnce = true → t.queueOnce = true)

/-- Every step keeps the pending lists exactly what the records require: a kit is in its listen slot's list while it is
enrolled and PENDING, in its ordered slot's list too while it straddles, at most once in any list, and in no other
(R25, R72, R73). -/
def Obligations.EveryStepKeepsTheListsOnTheRecords : Prop :=
  ∀ s t : State, s.tablesCanonical = true → s.listsFollow → step s = .next t → t.listsFollow

/-- Every step keeps every record valid: each field in its range, a move issue exactly while the slots differ, a SETTLED kit
with its issue confirmed and no notice owed, move sent only while a move is pending (R18 to R20, R40). -/
def Obligations.EveryStepKeepsTheRecordsValid : Prop :=
  ∀ s t : State, s.recordsValid → step s = .next t → t.recordsValid

/-- Every step keeps the store controller in the states its operating state allows, IDLE only with nothing to write, and in
LOADING nothing at work but the load; and the operating state changes only by the commands and events the manual names
(R8 to R13, R147, R151, R154, R155). -/
def Obligations.OnlyTheNamedCommandsChangeTheOperatingState : Prop :=
  ∀ (s t : State) (c : Instr), s.storeFits → exec c s = .next t →
    t.storeFits ∧ (t.link.op = s.link.op ∨ changesOp c s.link.op t.link.op)
end

