-- ==== Sys2Proof/Laws/State.lean ====
section
/-! SUPPORT. One lemma for each field of the state after each named update, and after each operation that changes one
block only, so that no proof unfolds an update. -/

namespace Sys2Proof.Laws

open Sys2Proof Sys2Proof.Machine

/-! ### onPins changes the block `pins` -/

@[simp] theorem onPins_pins (s : State) (f : Pins → Pins) : (s.onPins f).pins = f s.pins := rfl
@[simp] theorem onPins_clock (s : State) (f : Pins → Pins) : (s.onPins f).clock = s.clock := rfl
@[simp] theorem onPins_roster (s : State) (f : Pins → Pins) : (s.onPins f).roster = s.roster := rfl
@[simp] theorem onPins_walk (s : State) (f : Pins → Pins) : (s.onPins f).walk = s.walk := rfl
@[simp] theorem onPins_settings (s : State) (f : Pins → Pins) : (s.onPins f).settings = s.settings := rfl
@[simp] theorem onPins_scheduler (s : State) (f : Pins → Pins) : (s.onPins f).scheduler = s.scheduler := rfl
@[simp] theorem onPins_builder (s : State) (f : Pins → Pins) : (s.onPins f).builder = s.builder := rfl
@[simp] theorem onPins_framer (s : State) (f : Pins → Pins) : (s.onPins f).framer = s.framer := rfl
@[simp] theorem onPins_handler (s : State) (f : Pins → Pins) : (s.onPins f).handler = s.handler := rfl
@[simp] theorem onPins_store (s : State) (f : Pins → Pins) : (s.onPins f).store = s.store := rfl
@[simp] theorem onPins_link (s : State) (f : Pins → Pins) : (s.onPins f).link = s.link := rfl
@[simp] theorem onPins_pending (s : State) (f : Pins → Pins) : (s.onPins f).pending = s.pending := rfl

/-! ### onClock changes the block `clock` -/

@[simp] theorem onClock_pins (s : State) (f : Clock → Clock) : (s.onClock f).pins = s.pins := rfl
@[simp] theorem onClock_clock (s : State) (f : Clock → Clock) : (s.onClock f).clock = f s.clock := rfl
@[simp] theorem onClock_roster (s : State) (f : Clock → Clock) : (s.onClock f).roster = s.roster := rfl
@[simp] theorem onClock_walk (s : State) (f : Clock → Clock) : (s.onClock f).walk = s.walk := rfl
@[simp] theorem onClock_settings (s : State) (f : Clock → Clock) : (s.onClock f).settings = s.settings := rfl
@[simp] theorem onClock_scheduler (s : State) (f : Clock → Clock) : (s.onClock f).scheduler = s.scheduler := rfl
@[simp] theorem onClock_builder (s : State) (f : Clock → Clock) : (s.onClock f).builder = s.builder := rfl
@[simp] theorem onClock_framer (s : State) (f : Clock → Clock) : (s.onClock f).framer = s.framer := rfl
@[simp] theorem onClock_handler (s : State) (f : Clock → Clock) : (s.onClock f).handler = s.handler := rfl
@[simp] theorem onClock_store (s : State) (f : Clock → Clock) : (s.onClock f).store = s.store := rfl
@[simp] theorem onClock_link (s : State) (f : Clock → Clock) : (s.onClock f).link = s.link := rfl
@[simp] theorem onClock_pending (s : State) (f : Clock → Clock) : (s.onClock f).pending = s.pending := rfl

/-! ### onRoster changes the block `roster` -/

@[simp] theorem onRoster_pins (s : State) (f : List (Nat × Kit) → List (Nat × Kit)) : (s.onRoster f).pins = s.pins := rfl
@[simp] theorem onRoster_clock (s : State) (f : List (Nat × Kit) → List (Nat × Kit)) : (s.onRoster f).clock = s.clock := rfl
@[simp] theorem onRoster_roster (s : State) (f : List (Nat × Kit) → List (Nat × Kit)) : (s.onRoster f).roster = f s.roster := rfl
@[simp] theorem onRoster_walk (s : State) (f : List (Nat × Kit) → List (Nat × Kit)) : (s.onRoster f).walk = s.walk := rfl
@[simp] theorem onRoster_settings (s : State) (f : List (Nat × Kit) → List (Nat × Kit)) : (s.onRoster f).settings = s.settings := rfl
@[simp] theorem onRoster_scheduler (s : State) (f : List (Nat × Kit) → List (Nat × Kit)) : (s.onRoster f).scheduler = s.scheduler := rfl
@[simp] theorem onRoster_builder (s : State) (f : List (Nat × Kit) → List (Nat × Kit)) : (s.onRoster f).builder = s.builder := rfl
@[simp] theorem onRoster_framer (s : State) (f : List (Nat × Kit) → List (Nat × Kit)) : (s.onRoster f).framer = s.framer := rfl
@[simp] theorem onRoster_handler (s : State) (f : List (Nat × Kit) → List (Nat × Kit)) : (s.onRoster f).handler = s.handler := rfl
@[simp] theorem onRoster_store (s : State) (f : List (Nat × Kit) → List (Nat × Kit)) : (s.onRoster f).store = s.store := rfl
@[simp] theorem onRoster_link (s : State) (f : List (Nat × Kit) → List (Nat × Kit)) : (s.onRoster f).link = s.link := rfl
@[simp] theorem onRoster_pending (s : State) (f : List (Nat × Kit) → List (Nat × Kit)) : (s.onRoster f).pending = s.pending := rfl

/-! ### setWalk changes the block `walk` -/

@[simp] theorem setWalk_pins (s : State) (w : Option Walk) : (s.setWalk w).pins = s.pins := rfl
@[simp] theorem setWalk_clock (s : State) (w : Option Walk) : (s.setWalk w).clock = s.clock := rfl
@[simp] theorem setWalk_roster (s : State) (w : Option Walk) : (s.setWalk w).roster = s.roster := rfl
@[simp] theorem setWalk_walk (s : State) (w : Option Walk) : (s.setWalk w).walk = w := rfl
@[simp] theorem setWalk_settings (s : State) (w : Option Walk) : (s.setWalk w).settings = s.settings := rfl
@[simp] theorem setWalk_scheduler (s : State) (w : Option Walk) : (s.setWalk w).scheduler = s.scheduler := rfl
@[simp] theorem setWalk_builder (s : State) (w : Option Walk) : (s.setWalk w).builder = s.builder := rfl
@[simp] theorem setWalk_framer (s : State) (w : Option Walk) : (s.setWalk w).framer = s.framer := rfl
@[simp] theorem setWalk_handler (s : State) (w : Option Walk) : (s.setWalk w).handler = s.handler := rfl
@[simp] theorem setWalk_store (s : State) (w : Option Walk) : (s.setWalk w).store = s.store := rfl
@[simp] theorem setWalk_link (s : State) (w : Option Walk) : (s.setWalk w).link = s.link := rfl
@[simp] theorem setWalk_pending (s : State) (w : Option Walk) : (s.setWalk w).pending = s.pending := rfl

/-! ### setSettings changes the block `settings` -/

@[simp] theorem setSettings_pins (s : State) (g : Settings) : (s.setSettings g).pins = s.pins := rfl
@[simp] theorem setSettings_clock (s : State) (g : Settings) : (s.setSettings g).clock = s.clock := rfl
@[simp] theorem setSettings_roster (s : State) (g : Settings) : (s.setSettings g).roster = s.roster := rfl
@[simp] theorem setSettings_walk (s : State) (g : Settings) : (s.setSettings g).walk = s.walk := rfl
@[simp] theorem setSettings_settings (s : State) (g : Settings) : (s.setSettings g).settings = g := rfl
@[simp] theorem setSettings_scheduler (s : State) (g : Settings) : (s.setSettings g).scheduler = s.scheduler := rfl
@[simp] theorem setSettings_builder (s : State) (g : Settings) : (s.setSettings g).builder = s.builder := rfl
@[simp] theorem setSettings_framer (s : State) (g : Settings) : (s.setSettings g).framer = s.framer := rfl
@[simp] theorem setSettings_handler (s : State) (g : Settings) : (s.setSettings g).handler = s.handler := rfl
@[simp] theorem setSettings_store (s : State) (g : Settings) : (s.setSettings g).store = s.store := rfl
@[simp] theorem setSettings_link (s : State) (g : Settings) : (s.setSettings g).link = s.link := rfl
@[simp] theorem setSettings_pending (s : State) (g : Settings) : (s.setSettings g).pending = s.pending := rfl

/-! ### onScheduler changes the block `scheduler` -/

@[simp] theorem onScheduler_pins (s : State) (f : Scheduler → Scheduler) : (s.onScheduler f).pins = s.pins := rfl
@[simp] theorem onScheduler_clock (s : State) (f : Scheduler → Scheduler) : (s.onScheduler f).clock = s.clock := rfl
@[simp] theorem onScheduler_roster (s : State) (f : Scheduler → Scheduler) : (s.onScheduler f).roster = s.roster := rfl
@[simp] theorem onScheduler_walk (s : State) (f : Scheduler → Scheduler) : (s.onScheduler f).walk = s.walk := rfl
@[simp] theorem onScheduler_settings (s : State) (f : Scheduler → Scheduler) : (s.onScheduler f).settings = s.settings := rfl
@[simp] theorem onScheduler_scheduler (s : State) (f : Scheduler → Scheduler) : (s.onScheduler f).scheduler = f s.scheduler := rfl
@[simp] theorem onScheduler_builder (s : State) (f : Scheduler → Scheduler) : (s.onScheduler f).builder = s.builder := rfl
@[simp] theorem onScheduler_framer (s : State) (f : Scheduler → Scheduler) : (s.onScheduler f).framer = s.framer := rfl
@[simp] theorem onScheduler_handler (s : State) (f : Scheduler → Scheduler) : (s.onScheduler f).handler = s.handler := rfl
@[simp] theorem onScheduler_store (s : State) (f : Scheduler → Scheduler) : (s.onScheduler f).store = s.store := rfl
@[simp] theorem onScheduler_link (s : State) (f : Scheduler → Scheduler) : (s.onScheduler f).link = s.link := rfl
@[simp] theorem onScheduler_pending (s : State) (f : Scheduler → Scheduler) : (s.onScheduler f).pending = s.pending := rfl

/-! ### onBuilder changes the block `builder` -/

@[simp] theorem onBuilder_pins (s : State) (f : Builder → Builder) : (s.onBuilder f).pins = s.pins := rfl
@[simp] theorem onBuilder_clock (s : State) (f : Builder → Builder) : (s.onBuilder f).clock = s.clock := rfl
@[simp] theorem onBuilder_roster (s : State) (f : Builder → Builder) : (s.onBuilder f).roster = s.roster := rfl
@[simp] theorem onBuilder_walk (s : State) (f : Builder → Builder) : (s.onBuilder f).walk = s.walk := rfl
@[simp] theorem onBuilder_settings (s : State) (f : Builder → Builder) : (s.onBuilder f).settings = s.settings := rfl
@[simp] theorem onBuilder_scheduler (s : State) (f : Builder → Builder) : (s.onBuilder f).scheduler = s.scheduler := rfl
@[simp] theorem onBuilder_builder (s : State) (f : Builder → Builder) : (s.onBuilder f).builder = f s.builder := rfl
@[simp] theorem onBuilder_framer (s : State) (f : Builder → Builder) : (s.onBuilder f).framer = s.framer := rfl
@[simp] theorem onBuilder_handler (s : State) (f : Builder → Builder) : (s.onBuilder f).handler = s.handler := rfl
@[simp] theorem onBuilder_store (s : State) (f : Builder → Builder) : (s.onBuilder f).store = s.store := rfl
@[simp] theorem onBuilder_link (s : State) (f : Builder → Builder) : (s.onBuilder f).link = s.link := rfl
@[simp] theorem onBuilder_pending (s : State) (f : Builder → Builder) : (s.onBuilder f).pending = s.pending := rfl

/-! ### onFramer changes the block `framer` -/

@[simp] theorem onFramer_pins (s : State) (f : Framer → Framer) : (s.onFramer f).pins = s.pins := rfl
@[simp] theorem onFramer_clock (s : State) (f : Framer → Framer) : (s.onFramer f).clock = s.clock := rfl
@[simp] theorem onFramer_roster (s : State) (f : Framer → Framer) : (s.onFramer f).roster = s.roster := rfl
@[simp] theorem onFramer_walk (s : State) (f : Framer → Framer) : (s.onFramer f).walk = s.walk := rfl
@[simp] theorem onFramer_settings (s : State) (f : Framer → Framer) : (s.onFramer f).settings = s.settings := rfl
@[simp] theorem onFramer_scheduler (s : State) (f : Framer → Framer) : (s.onFramer f).scheduler = s.scheduler := rfl
@[simp] theorem onFramer_builder (s : State) (f : Framer → Framer) : (s.onFramer f).builder = s.builder := rfl
@[simp] theorem onFramer_framer (s : State) (f : Framer → Framer) : (s.onFramer f).framer = f s.framer := rfl
@[simp] theorem onFramer_handler (s : State) (f : Framer → Framer) : (s.onFramer f).handler = s.handler := rfl
@[simp] theorem onFramer_store (s : State) (f : Framer → Framer) : (s.onFramer f).store = s.store := rfl
@[simp] theorem onFramer_link (s : State) (f : Framer → Framer) : (s.onFramer f).link = s.link := rfl
@[simp] theorem onFramer_pending (s : State) (f : Framer → Framer) : (s.onFramer f).pending = s.pending := rfl

/-! ### setHandler changes the block `handler` -/

@[simp] theorem setHandler_pins (s : State) (h : Handler) : (s.setHandler h).pins = s.pins := rfl
@[simp] theorem setHandler_clock (s : State) (h : Handler) : (s.setHandler h).clock = s.clock := rfl
@[simp] theorem setHandler_roster (s : State) (h : Handler) : (s.setHandler h).roster = s.roster := rfl
@[simp] theorem setHandler_walk (s : State) (h : Handler) : (s.setHandler h).walk = s.walk := rfl
@[simp] theorem setHandler_settings (s : State) (h : Handler) : (s.setHandler h).settings = s.settings := rfl
@[simp] theorem setHandler_scheduler (s : State) (h : Handler) : (s.setHandler h).scheduler = s.scheduler := rfl
@[simp] theorem setHandler_builder (s : State) (h : Handler) : (s.setHandler h).builder = s.builder := rfl
@[simp] theorem setHandler_framer (s : State) (h : Handler) : (s.setHandler h).framer = s.framer := rfl
@[simp] theorem setHandler_handler (s : State) (h : Handler) : (s.setHandler h).handler = h := rfl
@[simp] theorem setHandler_store (s : State) (h : Handler) : (s.setHandler h).store = s.store := rfl
@[simp] theorem setHandler_link (s : State) (h : Handler) : (s.setHandler h).link = s.link := rfl
@[simp] theorem setHandler_pending (s : State) (h : Handler) : (s.setHandler h).pending = s.pending := rfl

/-! ### onStore changes the block `store` -/

@[simp] theorem onStore_pins (s : State) (f : Store → Store) : (s.onStore f).pins = s.pins := rfl
@[simp] theorem onStore_clock (s : State) (f : Store → Store) : (s.onStore f).clock = s.clock := rfl
@[simp] theorem onStore_roster (s : State) (f : Store → Store) : (s.onStore f).roster = s.roster := rfl
@[simp] theorem onStore_walk (s : State) (f : Store → Store) : (s.onStore f).walk = s.walk := rfl
@[simp] theorem onStore_settings (s : State) (f : Store → Store) : (s.onStore f).settings = s.settings := rfl
@[simp] theorem onStore_scheduler (s : State) (f : Store → Store) : (s.onStore f).scheduler = s.scheduler := rfl
@[simp] theorem onStore_builder (s : State) (f : Store → Store) : (s.onStore f).builder = s.builder := rfl
@[simp] theorem onStore_framer (s : State) (f : Store → Store) : (s.onStore f).framer = s.framer := rfl
@[simp] theorem onStore_handler (s : State) (f : Store → Store) : (s.onStore f).handler = s.handler := rfl
@[simp] theorem onStore_store (s : State) (f : Store → Store) : (s.onStore f).store = f s.store := rfl
@[simp] theorem onStore_link (s : State) (f : Store → Store) : (s.onStore f).link = s.link := rfl
@[simp] theorem onStore_pending (s : State) (f : Store → Store) : (s.onStore f).pending = s.pending := rfl

/-! ### onLink changes the block `link` -/

@[simp] theorem onLink_pins (s : State) (f : Link → Link) : (s.onLink f).pins = s.pins := rfl
@[simp] theorem onLink_clock (s : State) (f : Link → Link) : (s.onLink f).clock = s.clock := rfl
@[simp] theorem onLink_roster (s : State) (f : Link → Link) : (s.onLink f).roster = s.roster := rfl
@[simp] theorem onLink_walk (s : State) (f : Link → Link) : (s.onLink f).walk = s.walk := rfl
@[simp] theorem onLink_settings (s : State) (f : Link → Link) : (s.onLink f).settings = s.settings := rfl
@[simp] theorem onLink_scheduler (s : State) (f : Link → Link) : (s.onLink f).scheduler = s.scheduler := rfl
@[simp] theorem onLink_builder (s : State) (f : Link → Link) : (s.onLink f).builder = s.builder := rfl
@[simp] theorem onLink_framer (s : State) (f : Link → Link) : (s.onLink f).framer = s.framer := rfl
@[simp] theorem onLink_handler (s : State) (f : Link → Link) : (s.onLink f).handler = s.handler := rfl
@[simp] theorem onLink_store (s : State) (f : Link → Link) : (s.onLink f).store = s.store := rfl
@[simp] theorem onLink_link (s : State) (f : Link → Link) : (s.onLink f).link = f s.link := rfl
@[simp] theorem onLink_pending (s : State) (f : Link → Link) : (s.onLink f).pending = s.pending := rfl

/-! ### post changes the block `link` only -/

@[simp] theorem post_pins (s : State) (n : NoticeKind) (k : Option Nat) : (s.post n k).pins = s.pins := rfl
@[simp] theorem post_clock (s : State) (n : NoticeKind) (k : Option Nat) : (s.post n k).clock = s.clock := rfl
@[simp] theorem post_roster (s : State) (n : NoticeKind) (k : Option Nat) : (s.post n k).roster = s.roster := rfl
@[simp] theorem post_walk (s : State) (n : NoticeKind) (k : Option Nat) : (s.post n k).walk = s.walk := rfl
@[simp] theorem post_settings (s : State) (n : NoticeKind) (k : Option Nat) : (s.post n k).settings = s.settings := rfl
@[simp] theorem post_scheduler (s : State) (n : NoticeKind) (k : Option Nat) : (s.post n k).scheduler = s.scheduler := rfl
@[simp] theorem post_builder (s : State) (n : NoticeKind) (k : Option Nat) : (s.post n k).builder = s.builder := rfl
@[simp] theorem post_framer (s : State) (n : NoticeKind) (k : Option Nat) : (s.post n k).framer = s.framer := rfl
@[simp] theorem post_handler (s : State) (n : NoticeKind) (k : Option Nat) : (s.post n k).handler = s.handler := rfl
@[simp] theorem post_store (s : State) (n : NoticeKind) (k : Option Nat) : (s.post n k).store = s.store := rfl
@[simp] theorem post_pending (s : State) (n : NoticeKind) (k : Option Nat) : (s.post n k).pending = s.pending := rfl

/-! ### raise changes the block `link` only -/

@[simp] theorem raise_pins (s : State) (c : Counter) : (s.raise c).pins = s.pins := rfl
@[simp] theorem raise_clock (s : State) (c : Counter) : (s.raise c).clock = s.clock := rfl
@[simp] theorem raise_roster (s : State) (c : Counter) : (s.raise c).roster = s.roster := rfl
@[simp] theorem raise_walk (s : State) (c : Counter) : (s.raise c).walk = s.walk := rfl
@[simp] theorem raise_settings (s : State) (c : Counter) : (s.raise c).settings = s.settings := rfl
@[simp] theorem raise_scheduler (s : State) (c : Counter) : (s.raise c).scheduler = s.scheduler := rfl
@[simp] theorem raise_builder (s : State) (c : Counter) : (s.raise c).builder = s.builder := rfl
@[simp] theorem raise_framer (s : State) (c : Counter) : (s.raise c).framer = s.framer := rfl
@[simp] theorem raise_handler (s : State) (c : Counter) : (s.raise c).handler = s.handler := rfl
@[simp] theorem raise_store (s : State) (c : Counter) : (s.raise c).store = s.store := rfl
@[simp] theorem raise_pending (s : State) (c : Counter) : (s.raise c).pending = s.pending := rfl

/-! ### pushReply changes the block `link` only -/

@[simp] theorem pushReply_pins (s : State) (r : Reply) : (s.pushReply r).pins = s.pins := rfl
@[simp] theorem pushReply_clock (s : State) (r : Reply) : (s.pushReply r).clock = s.clock := rfl
@[simp] theorem pushReply_roster (s : State) (r : Reply) : (s.pushReply r).roster = s.roster := rfl
@[simp] theorem pushReply_walk (s : State) (r : Reply) : (s.pushReply r).walk = s.walk := rfl
@[simp] theorem pushReply_settings (s : State) (r : Reply) : (s.pushReply r).settings = s.settings := rfl
@[simp] theorem pushReply_scheduler (s : State) (r : Reply) : (s.pushReply r).scheduler = s.scheduler := rfl
@[simp] theorem pushReply_builder (s : State) (r : Reply) : (s.pushReply r).builder = s.builder := rfl
@[simp] theorem pushReply_framer (s : State) (r : Reply) : (s.pushReply r).framer = s.framer := rfl
@[simp] theorem pushReply_handler (s : State) (r : Reply) : (s.pushReply r).handler = s.handler := rfl
@[simp] theorem pushReply_store (s : State) (r : Reply) : (s.pushReply r).store = s.store := rfl
@[simp] theorem pushReply_pending (s : State) (r : Reply) : (s.pushReply r).pending = s.pending := rfl

/-! ### answerTaken changes the block `link` only -/

@[simp] theorem answerTaken_pins (s : State) (k : CmdKind) (tag : Byte) (p : List Byte) (r : Reply) : (s.answerTaken k tag p r).pins = s.pins := rfl
@[simp] theorem answerTaken_clock (s : State) (k : CmdKind) (tag : Byte) (p : List Byte) (r : Reply) : (s.answerTaken k tag p r).clock = s.clock := rfl
@[simp] theorem answerTaken_roster (s : State) (k : CmdKind) (tag : Byte) (p : List Byte) (r : Reply) : (s.answerTaken k tag p r).roster = s.roster := rfl
@[simp] theorem answerTaken_walk (s : State) (k : CmdKind) (tag : Byte) (p : List Byte) (r : Reply) : (s.answerTaken k tag p r).walk = s.walk := rfl
@[simp] theorem answerTaken_settings (s : State) (k : CmdKind) (tag : Byte) (p : List Byte) (r : Reply) : (s.answerTaken k tag p r).settings = s.settings := rfl
@[simp] theorem answerTaken_scheduler (s : State) (k : CmdKind) (tag : Byte) (p : List Byte) (r : Reply) : (s.answerTaken k tag p r).scheduler = s.scheduler := rfl
@[simp] theorem answerTaken_builder (s : State) (k : CmdKind) (tag : Byte) (p : List Byte) (r : Reply) : (s.answerTaken k tag p r).builder = s.builder := rfl
@[simp] theorem answerTaken_framer (s : State) (k : CmdKind) (tag : Byte) (p : List Byte) (r : Reply) : (s.answerTaken k tag p r).framer = s.framer := rfl
@[simp] theorem answerTaken_handler (s : State) (k : CmdKind) (tag : Byte) (p : List Byte) (r : Reply) : (s.answerTaken k tag p r).handler = s.handler := rfl
@[simp] theorem answerTaken_store (s : State) (k : CmdKind) (tag : Byte) (p : List Byte) (r : Reply) : (s.answerTaken k tag p r).store = s.store := rfl
@[simp] theorem answerTaken_pending (s : State) (k : CmdKind) (tag : Byte) (p : List Byte) (r : Reply) : (s.answerTaken k tag p r).pending = s.pending := rfl

/-! ### answerNow changes the block `link` only -/

@[simp] theorem answerNow_pins (s : State) (k : CmdKind) (tag : Byte) (p : List Byte) (st : Status) (c : List Byte) : (s.answerNow k tag p st c).pins = s.pins := rfl
@[simp] theorem answerNow_clock (s : State) (k : CmdKind) (tag : Byte) (p : List Byte) (st : Status) (c : List Byte) : (s.answerNow k tag p st c).clock = s.clock := rfl
@[simp] theorem answerNow_roster (s : State) (k : CmdKind) (tag : Byte) (p : List Byte) (st : Status) (c : List Byte) : (s.answerNow k tag p st c).roster = s.roster := rfl
@[simp] theorem answerNow_walk (s : State) (k : CmdKind) (tag : Byte) (p : List Byte) (st : Status) (c : List Byte) : (s.answerNow k tag p st c).walk = s.walk := rfl
@[simp] theorem answerNow_settings (s : State) (k : CmdKind) (tag : Byte) (p : List Byte) (st : Status) (c : List Byte) : (s.answerNow k tag p st c).settings = s.settings := rfl
@[simp] theorem answerNow_scheduler (s : State) (k : CmdKind) (tag : Byte) (p : List Byte) (st : Status) (c : List Byte) : (s.answerNow k tag p st c).scheduler = s.scheduler := rfl
@[simp] theorem answerNow_builder (s : State) (k : CmdKind) (tag : Byte) (p : List Byte) (st : Status) (c : List Byte) : (s.answerNow k tag p st c).builder = s.builder := rfl
@[simp] theorem answerNow_framer (s : State) (k : CmdKind) (tag : Byte) (p : List Byte) (st : Status) (c : List Byte) : (s.answerNow k tag p st c).framer = s.framer := rfl
@[simp] theorem answerNow_handler (s : State) (k : CmdKind) (tag : Byte) (p : List Byte) (st : Status) (c : List Byte) : (s.answerNow k tag p st c).handler = s.handler := rfl
@[simp] theorem answerNow_store (s : State) (k : CmdKind) (tag : Byte) (p : List Byte) (st : Status) (c : List Byte) : (s.answerNow k tag p st c).store = s.store := rfl
@[simp] theorem answerNow_pending (s : State) (k : CmdKind) (tag : Byte) (p : List Byte) (st : Status) (c : List Byte) : (s.answerNow k tag p st c).pending = s.pending := rfl

/-! ### answerHand changes the block `link` only -/

@[simp] theorem answerHand_pins (s : State) (h : Hand) (st : Status) (c : List Byte) : (s.answerHand h st c).pins = s.pins := rfl
@[simp] theorem answerHand_clock (s : State) (h : Hand) (st : Status) (c : List Byte) : (s.answerHand h st c).clock = s.clock := rfl
@[simp] theorem answerHand_roster (s : State) (h : Hand) (st : Status) (c : List Byte) : (s.answerHand h st c).roster = s.roster := rfl
@[simp] theorem answerHand_walk (s : State) (h : Hand) (st : Status) (c : List Byte) : (s.answerHand h st c).walk = s.walk := rfl
@[simp] theorem answerHand_settings (s : State) (h : Hand) (st : Status) (c : List Byte) : (s.answerHand h st c).settings = s.settings := rfl
@[simp] theorem answerHand_scheduler (s : State) (h : Hand) (st : Status) (c : List Byte) : (s.answerHand h st c).scheduler = s.scheduler := rfl
@[simp] theorem answerHand_builder (s : State) (h : Hand) (st : Status) (c : List Byte) : (s.answerHand h st c).builder = s.builder := rfl
@[simp] theorem answerHand_framer (s : State) (h : Hand) (st : Status) (c : List Byte) : (s.answerHand h st c).framer = s.framer := rfl
@[simp] theorem answerHand_handler (s : State) (h : Hand) (st : Status) (c : List Byte) : (s.answerHand h st c).handler = s.handler := rfl
@[simp] theorem answerHand_store (s : State) (h : Hand) (st : Status) (c : List Byte) : (s.answerHand h st c).store = s.store := rfl
@[simp] theorem answerHand_pending (s : State) (h : Hand) (st : Status) (c : List Byte) : (s.answerHand h st c).pending = s.pending := rfl

/-! ### setHand changes the block `link` only -/

@[simp] theorem setHand_pins (s : State) (h : Hand) : (s.setHand h).pins = s.pins := rfl
@[simp] theorem setHand_clock (s : State) (h : Hand) : (s.setHand h).clock = s.clock := rfl
@[simp] theorem setHand_roster (s : State) (h : Hand) : (s.setHand h).roster = s.roster := rfl
@[simp] theorem setHand_walk (s : State) (h : Hand) : (s.setHand h).walk = s.walk := rfl
@[simp] theorem setHand_settings (s : State) (h : Hand) : (s.setHand h).settings = s.settings := rfl
@[simp] theorem setHand_scheduler (s : State) (h : Hand) : (s.setHand h).scheduler = s.scheduler := rfl
@[simp] theorem setHand_builder (s : State) (h : Hand) : (s.setHand h).builder = s.builder := rfl
@[simp] theorem setHand_framer (s : State) (h : Hand) : (s.setHand h).framer = s.framer := rfl
@[simp] theorem setHand_handler (s : State) (h : Hand) : (s.setHand h).handler = s.handler := rfl
@[simp] theorem setHand_store (s : State) (h : Hand) : (s.setHand h).store = s.store := rfl
@[simp] theorem setHand_pending (s : State) (h : Hand) : (s.setHand h).pending = s.pending := rfl

/-! ### setOp changes the block `link` only -/

@[simp] theorem setOp_pins (s : State) (op : OpState) : (s.setOp op).pins = s.pins := rfl
@[simp] theorem setOp_clock (s : State) (op : OpState) : (s.setOp op).clock = s.clock := rfl
@[simp] theorem setOp_roster (s : State) (op : OpState) : (s.setOp op).roster = s.roster := rfl
@[simp] theorem setOp_walk (s : State) (op : OpState) : (s.setOp op).walk = s.walk := rfl
@[simp] theorem setOp_settings (s : State) (op : OpState) : (s.setOp op).settings = s.settings := rfl
@[simp] theorem setOp_scheduler (s : State) (op : OpState) : (s.setOp op).scheduler = s.scheduler := rfl
@[simp] theorem setOp_builder (s : State) (op : OpState) : (s.setOp op).builder = s.builder := rfl
@[simp] theorem setOp_framer (s : State) (op : OpState) : (s.setOp op).framer = s.framer := rfl
@[simp] theorem setOp_handler (s : State) (op : OpState) : (s.setOp op).handler = s.handler := rfl
@[simp] theorem setOp_store (s : State) (op : OpState) : (s.setOp op).store = s.store := rfl
@[simp] theorem setOp_pending (s : State) (op : OpState) : (s.setOp op).pending = s.pending := rfl

/-! ### enqueue changes the block `store` only -/

@[simp] theorem enqueue_pins (s : State) (k : Nat) : (s.enqueue k).pins = s.pins := rfl
@[simp] theorem enqueue_clock (s : State) (k : Nat) : (s.enqueue k).clock = s.clock := rfl
@[simp] theorem enqueue_roster (s : State) (k : Nat) : (s.enqueue k).roster = s.roster := rfl
@[simp] theorem enqueue_walk (s : State) (k : Nat) : (s.enqueue k).walk = s.walk := rfl
@[simp] theorem enqueue_settings (s : State) (k : Nat) : (s.enqueue k).settings = s.settings := rfl
@[simp] theorem enqueue_scheduler (s : State) (k : Nat) : (s.enqueue k).scheduler = s.scheduler := rfl
@[simp] theorem enqueue_builder (s : State) (k : Nat) : (s.enqueue k).builder = s.builder := rfl
@[simp] theorem enqueue_framer (s : State) (k : Nat) : (s.enqueue k).framer = s.framer := rfl
@[simp] theorem enqueue_handler (s : State) (k : Nat) : (s.enqueue k).handler = s.handler := rfl
@[simp] theorem enqueue_link (s : State) (k : Nat) : (s.enqueue k).link = s.link := rfl
@[simp] theorem enqueue_pending (s : State) (k : Nat) : (s.enqueue k).pending = s.pending := rfl

/-! ### memoryHolds changes the block `store` only -/

@[simp] theorem memoryHolds_pins (s : State) (t : StoreTarget) (bs : List Byte) : (s.memoryHolds t bs).pins = s.pins := rfl
@[simp] theorem memoryHolds_clock (s : State) (t : StoreTarget) (bs : List Byte) : (s.memoryHolds t bs).clock = s.clock := rfl
@[simp] theorem memoryHolds_roster (s : State) (t : StoreTarget) (bs : List Byte) : (s.memoryHolds t bs).roster = s.roster := rfl
@[simp] theorem memoryHolds_walk (s : State) (t : StoreTarget) (bs : List Byte) : (s.memoryHolds t bs).walk = s.walk := rfl
@[simp] theorem memoryHolds_settings (s : State) (t : StoreTarget) (bs : List Byte) : (s.memoryHolds t bs).settings = s.settings := rfl
@[simp] theorem memoryHolds_scheduler (s : State) (t : StoreTarget) (bs : List Byte) : (s.memoryHolds t bs).scheduler = s.scheduler := rfl
@[simp] theorem memoryHolds_builder (s : State) (t : StoreTarget) (bs : List Byte) : (s.memoryHolds t bs).builder = s.builder := rfl
@[simp] theorem memoryHolds_framer (s : State) (t : StoreTarget) (bs : List Byte) : (s.memoryHolds t bs).framer = s.framer := rfl
@[simp] theorem memoryHolds_handler (s : State) (t : StoreTarget) (bs : List Byte) : (s.memoryHolds t bs).handler = s.handler := rfl
@[simp] theorem memoryHolds_link (s : State) (t : StoreTarget) (bs : List Byte) : (s.memoryHolds t bs).link = s.link := rfl
@[simp] theorem memoryHolds_pending (s : State) (t : StoreTarget) (bs : List Byte) : (s.memoryHolds t bs).pending = s.pending := rfl

/-! ### putKit changes the roster and the lists only -/

@[simp] theorem putKit_pins (s : State) (k : Nat) (kit : Kit) : (s.putKit k kit).pins = s.pins := rfl
@[simp] theorem putKit_clock (s : State) (k : Nat) (kit : Kit) : (s.putKit k kit).clock = s.clock := rfl
@[simp] theorem putKit_walk (s : State) (k : Nat) (kit : Kit) : (s.putKit k kit).walk = s.walk := rfl
@[simp] theorem putKit_settings (s : State) (k : Nat) (kit : Kit) : (s.putKit k kit).settings = s.settings := rfl
@[simp] theorem putKit_builder (s : State) (k : Nat) (kit : Kit) : (s.putKit k kit).builder = s.builder := rfl
@[simp] theorem putKit_framer (s : State) (k : Nat) (kit : Kit) : (s.putKit k kit).framer = s.framer := rfl
@[simp] theorem putKit_handler (s : State) (k : Nat) (kit : Kit) : (s.putKit k kit).handler = s.handler := rfl
@[simp] theorem putKit_store (s : State) (k : Nat) (kit : Kit) : (s.putKit k kit).store = s.store := rfl
@[simp] theorem putKit_link (s : State) (k : Nat) (kit : Kit) : (s.putKit k kit).link = s.link := rfl
@[simp] theorem putKit_pending (s : State) (k : Nat) (kit : Kit) : (s.putKit k kit).pending = s.pending := rfl

@[simp] theorem putKit_roster (s : State) (k : Nat) (kit : Kit) :
    (s.putKit k kit).roster = setAt .free k kit s.roster := rfl
@[simp] theorem putKit_scheduler (s : State) (k : Nat) (kit : Kit) : (s.putKit k kit).scheduler =
    { s.scheduler with lists := relist k kit.requiredSlots s.scheduler.lists } := rfl

/-! ### discardPreparation changes the buffers being prepared and the slot prepared for only -/

@[simp] theorem discardPreparation_pins (s : State) : s.discardPreparation.pins = s.pins := rfl
@[simp] theorem discardPreparation_clock (s : State) : s.discardPreparation.clock = s.clock := rfl
@[simp] theorem discardPreparation_roster (s : State) : s.discardPreparation.roster = s.roster := rfl
@[simp] theorem discardPreparation_walk (s : State) : s.discardPreparation.walk = s.walk := rfl
@[simp] theorem discardPreparation_settings (s : State) : s.discardPreparation.settings = s.settings := rfl
@[simp] theorem discardPreparation_framer (s : State) : s.discardPreparation.framer = s.framer := rfl
@[simp] theorem discardPreparation_handler (s : State) : s.discardPreparation.handler = s.handler := rfl
@[simp] theorem discardPreparation_store (s : State) : s.discardPreparation.store = s.store := rfl
@[simp] theorem discardPreparation_link (s : State) : s.discardPreparation.link = s.link := rfl
@[simp] theorem discardPreparation_pending (s : State) : s.discardPreparation.pending = s.pending := rfl

@[simp] theorem discardPreparation_builder (s : State) :
    s.discardPreparation.builder = { s.builder with preparing := none, ready := none } := rfl
@[simp] theorem discardPreparation_scheduler (s : State) :
    s.discardPreparation.scheduler = { s.scheduler with preparedFor := none } := rfl

/-! ### What the operations on the link make of it -/

@[simp] theorem pushReply_link (s : State) (r : Reply) :
    (s.pushReply r).link = { s.link with replies := s.link.replies ++ [r] } := rfl
@[simp] theorem setHand_link (s : State) (h : Hand) : (s.setHand h).link = { s.link with hand := some h } := rfl
@[simp] theorem setOp_link (s : State) (op : OpState) : (s.setOp op).link = { s.link with op := op } := rfl
@[simp] theorem raise_link (s : State) (c : Counter) :
    (s.raise c).link = { s.link with counters := s.link.counters.raise c 1 } := rfl
@[simp] theorem answerTaken_link (s : State) (k : CmdKind) (tag : Byte) (p : List Byte) (r : Reply) :
    (s.answerTaken k tag p r).link =
      { s.link with
        hand := none
        replies := s.link.replies ++ [r]
        copy := if tag = 0 then none
                else some { kind := k, tag := tag, payload := p, reply := { r with entersLoading := false } } } := rfl

@[simp] theorem post_link_op (s : State) (n : NoticeKind) (k : Option Nat) : (s.post n k).link.op = s.link.op := by
  simp only [State.post, onLink_link]; split <;> rfl
@[simp] theorem post_link_receiver (s : State) (n : NoticeKind) (k : Option Nat) : (s.post n k).link.receiver = s.link.receiver := by
  simp only [State.post, onLink_link]; split <;> rfl
@[simp] theorem post_link_hand (s : State) (n : NoticeKind) (k : Option Nat) : (s.post n k).link.hand = s.link.hand := by
  simp only [State.post, onLink_link]; split <;> rfl
@[simp] theorem post_link_replies (s : State) (n : NoticeKind) (k : Option Nat) : (s.post n k).link.replies = s.link.replies := by
  simp only [State.post, onLink_link]; split <;> rfl
@[simp] theorem post_link_copy (s : State) (n : NoticeKind) (k : Option Nat) : (s.post n k).link.copy = s.link.copy := by
  simp only [State.post, onLink_link]; split <;> rfl
@[simp] theorem post_link_pulse (s : State) (n : NoticeKind) (k : Option Nat) : (s.post n k).link.pulse = s.link.pulse := by
  simp only [State.post, onLink_link]; split <;> rfl
@[simp] theorem post_link_counters (s : State) (n : NoticeKind) (k : Option Nat) : (s.post n k).link.counters = s.link.counters := by
  simp only [State.post, onLink_link]; split <;> rfl

/-- What a post does to the notice queue and its lost count (R168). -/
theorem post_link (s : State) (n : NoticeKind) (k : Option Nat) :
    (s.post n k).link =
      if s.link.notices.length < 32 then
        { s.link with
          notices := s.link.notices ++ [{ kind := n, dh := s.clock.dh, cycle := s.clock.cycle, kit := k }] }
      else { s.link with lost := min (s.link.lost + 1) 255 } := rfl

/-- What is posted stays: the notices that stood before a post are a front part of those after it (R168). -/
theorem post_notices_prefix (s : State) (n : NoticeKind) (k : Option Nat) : s.link.notices <+: (s.post n k).link.notices := by
  rw [post_link]; split <;> simp

end Sys2Proof.Laws
end

