-- ==== Sys2Proof/Laws/Table.lean ====
section
/-! SUPPORT. The laws of the sparse tables and of the record store's memory: what a read gives after a write, that every
write keeps the canonical form, and that equal contents are equal data. -/

namespace Sys2Proof.Laws

open Sys2Proof Sys2Proof.Machine

variable {α : Type} {d : α}

/-! ### Read after write -/

theorem lookupAt_eraseAt (m : List (Nat × α)) (k j : Nat) :
    lookupAt d (eraseAt k m) j = if j = k then d else lookupAt d m j := by
  induction m with
  | nil => simp [eraseAt, lookupAt]
  | cons e t ih =>
    simp only [eraseAt, List.filter_cons, bne_iff_ne, ne_eq] at ih ⊢
    by_cases h : e.1 = k <;> by_cases h' : e.1 = j <;> simp_all [lookupAt]

theorem lookupAt_insertAt (m : List (Nat × α)) (k : Nat) (v : α) (hk : ∀ e ∈ m, e.1 ≠ k) (j : Nat) :
    lookupAt d (insertAt k v m) j = if j = k then v else lookupAt d m j := by
  induction m with
  | nil => simp [insertAt, lookupAt, eq_comm]
  | cons e t ih =>
    have he := hk e (by simp)
    have ih := ih fun e' h => hk e' (by simp [h])
    simp only [insertAt]
    split
    · simp [lookupAt, eq_comm]
    · by_cases h : e.1 = j
      · subst h; simp [lookupAt, he]
      · simp [lookupAt, h, ih]

theorem mem_eraseAt {m : List (Nat × α)} {k : Nat} {e : Nat × α} : e ∈ eraseAt k m ↔ e ∈ m ∧ e.1 ≠ k := by
  simp [eraseAt]

variable [DecidableEq α]

/-- What a table reads after an entry was set, at every number. -/
@[simp] theorem lookupAt_setAt (m : List (Nat × α)) (k : Nat) (v : α) (j : Nat) :
    lookupAt d (setAt d k v m) j = if j = k then v else lookupAt d m j := by
  unfold setAt
  split
  · subst v; exact lookupAt_eraseAt m k j
  · rw [lookupAt_insertAt _ _ _ fun e h => (mem_eraseAt.1 h).2, lookupAt_eraseAt]
    split <;> rfl

/-! ### The canonical form -/

/-- The canonical form, spelled out: numbers strictly rising and no default entry listed. -/
theorem canonical_iff (m : List (Nat × α)) :
    canonical d m = true ↔ m.Pairwise (fun e e' => e.1 < e'.1) ∧ ∀ e ∈ m, e.2 ≠ d := by
  induction m with
  | nil => simp [canonical]
  | cons e t ih =>
    cases t with
    | nil => simp [canonical]
    | cons e' t =>
      simp only [canonical, Bool.and_eq_true, bne_iff_ne, ne_eq, decide_eq_true_eq, ih, List.pairwise_cons,
        List.mem_cons, forall_eq_or_imp]
      constructor
      · rintro ⟨⟨h1, h2⟩, ⟨h3, h4⟩, h5, h6⟩
        exact ⟨⟨⟨h2, fun x hx => h2.trans (h3 x hx)⟩, h3, h4⟩, h1, h5, h6⟩
      · rintro ⟨⟨⟨h2, -⟩, h3, h4⟩, h1, h5, h6⟩
        exact ⟨⟨h1, h2⟩, ⟨h3, h4⟩, h5, h6⟩

omit [DecidableEq α] in
theorem mem_insertAt {m : List (Nat × α)} {k : Nat} {v : α} {e : Nat × α} :
    e ∈ insertAt k v m ↔ e = (k, v) ∨ e ∈ m := by
  induction m with
  | nil => simp [insertAt]
  | cons e' t ih =>
    simp only [insertAt]
    split <;> simp_all [or_left_comm]

/-- Setting an entry keeps the canonical form. -/
theorem canonical_setAt {m : List (Nat × α)} (h : canonical d m = true) (k : Nat) (v : α) :
    canonical d (setAt d k v m) = true := by
  rw [canonical_iff] at h ⊢
  have he : (eraseAt k m).Pairwise (fun e e' => e.1 < e'.1) := h.1.filter _
  unfold setAt
  split
  · exact ⟨he, fun e hm => h.2 e (mem_eraseAt.1 hm).1⟩
  · rename_i hv
    refine ⟨?_, fun e hm => ?_⟩
    · have hk : ∀ e ∈ eraseAt k m, e.1 ≠ k := fun e hm => (mem_eraseAt.1 hm).2
      generalize eraseAt k m = l at he hk
      induction l with
      | nil => simp [insertAt]
      | cons e t ih =>
        rw [List.pairwise_cons] at he
        have hne := hk e (by simp)
        simp only [insertAt]
        split
        · rename_i hlt
          refine List.pairwise_cons.2 ⟨fun x hx => ?_, List.pairwise_cons.2 he⟩
          rcases List.mem_cons.1 hx with rfl | hx
          · exact hlt
          · exact hlt.trans (he.1 x hx)
        · rename_i hge
          refine List.pairwise_cons.2 ⟨fun x hx => ?_, ih he.2 fun e' h' => hk e' (by simp [h'])⟩
          rcases mem_insertAt.1 hx with rfl | hx
          · simp only; omega
          · exact he.1 x hx
    · rcases mem_insertAt.1 hm with rfl | hm
      · exact hv
      · exact h.2 e (mem_eraseAt.1 hm).1

/-- In a canonical table an entry is listed exactly when it reads so and is no default. -/
theorem mem_iff_lookupAt {m : List (Nat × α)} (h : canonical d m = true) (k : Nat) (v : α) :
    (k, v) ∈ m ↔ lookupAt d m k = v ∧ v ≠ d := by
  rw [canonical_iff] at h
  induction m with
  | nil => simp only [List.not_mem_nil, lookupAt, false_iff]; rintro ⟨rfl, h⟩; exact h rfl
  | cons e t ih =>
    obtain ⟨n, w⟩ := e
    obtain ⟨hp, hd⟩ := h
    rw [List.pairwise_cons] at hp
    have ih := ih ⟨hp.2, fun e' h' => hd e' (by simp [h'])⟩
    by_cases hk : n = k
    · subst hk
      have hnot : (n, v) ∉ t := fun hm => Nat.lt_irrefl n (hp.1 (n, v) hm)
      have hw : w ≠ d := hd (n, w) (by simp)
      simp only [List.mem_cons, hnot, or_false, lookupAt, if_true, Prod.mk.injEq, true_and]
      constructor
      · rintro rfl; exact ⟨rfl, hw⟩
      · rintro ⟨rfl, -⟩; rfl
    · have hne : (k, v) ≠ (n, w) := fun h => hk (Prod.mk.inj h).1.symm
      simp [List.mem_cons, hne, lookupAt, hk, ih]

/-- Equal contents are equal data. -/
theorem canonical_ext {m m' : List (Nat × α)} (h : canonical d m = true) (h' : canonical d m' = true)
    (heq : ∀ k, lookupAt d m k = lookupAt d m' k) : m = m' := by
  have hm : ∀ e, e ∈ m ↔ e ∈ m' := fun e => by
    rw [mem_iff_lookupAt h e.1 e.2, mem_iff_lookupAt h' e.1 e.2, heq]
  have hs := (canonical_iff m).1 h
  have hs' := (canonical_iff m').1 h'
  have nd : ∀ l : List (Nat × α), l.Pairwise (fun e e' => e.1 < e'.1) → l.Nodup := fun l hl =>
    hl.imp fun {a b} hab => by rintro rfl; exact Nat.lt_irrefl _ hab
  refine List.Perm.eq_of_pairwise (le := fun e e' => e.1 < e'.1) (fun a b _ _ hab hba => absurd hab (by omega)) hs.1 hs'.1 ?_
  exact (List.perm_ext_iff_of_nodup (nd _ hs.1) (nd _ hs'.1)).2 hm

/-! ### The memory of the record store -/

@[simp] theorem readByte_writeByte (m : List Host.Cell) (a : Nat) (b : Byte) (x : Nat) :
    readByte (writeByte a b m) x = if x = a then b else readByte m x := lookupAt_setAt m a b x

/-- A write of a byte keeps the canonical form. -/
theorem memoryWf_writeByte {m : List Host.Cell} (h : memoryWf m = true) (a : Nat) (b : Byte) :
    memoryWf (writeByte a b m) = true := canonical_setAt h a b

/-- A write of a run keeps the canonical form. -/
theorem memoryWf_writeRun {m : List Host.Cell} (h : memoryWf m = true) (a : Nat) (bs : List Byte) :
    memoryWf (writeRun a bs m) = true := by
  induction bs generalizing a m with
  | nil => exact h
  | cons b bs ih => exact ih (memoryWf_writeByte h a b) (a + 1)

/-- What a byte reads after a write of a run: the run's own byte within it, and what it read before outside it. -/
@[simp] theorem readByte_writeRun (bs : List Byte) (m : List Host.Cell) (a x : Nat) :
    readByte (writeRun a bs m) x = if a ≤ x then (bs[x - a]?).getD (readByte m x) else readByte m x := by
  induction bs generalizing a m with
  | nil => simp [writeRun]
  | cons b bs ih =>
    rw [writeRun, ih, readByte_writeByte]
    by_cases h : x = a
    · subst h; simp
    · by_cases h' : a ≤ x
      · have h1 : a + 1 ≤ x := by omega
        have h2 : x - a = (x - (a + 1)) + 1 := by omega
        simp [h, h', h1, h2]
      · have h1 : ¬ a + 1 ≤ x := by omega
        simp [h, h', h1]

@[simp] theorem length_readRun (m : List Host.Cell) (a n : Nat) : (readRun m a n).length = n := by
  induction n generalizing a with
  | zero => rfl
  | succ n ih => simp [readRun, ih]

theorem getElem?_readRun (m : List Host.Cell) (a n i : Nat) :
    (readRun m a n)[i]? = if i < n then some (readByte m (a + i)) else none := by
  induction n generalizing a i with
  | zero => simp [readRun]
  | succ n ih =>
    cases i with
    | zero => simp [readRun]
    | succ i => simp [readRun, ih, Nat.add_comm, Nat.add_left_comm]

/-- A run that was written reads back. -/
theorem readRun_writeRun (m : List Host.Cell) (a : Nat) (bs : List Byte) :
    readRun (writeRun a bs m) a bs.length = bs := by
  apply List.ext_getElem?
  intro i
  rw [getElem?_readRun]
  split
  · rename_i h; simp [h]
  · rename_i h; simp [List.getElem?_eq_none (Nat.le_of_not_lt h)]

/-- The memory after reset is canonical. -/
theorem memoryWf_reset : memoryWf State.reset.store.cells = true := rfl

end Sys2Proof.Laws
end

