-- ==== Sys2Proof/Laws/Ops.lean ====
section
/-! SUPPORT. What the shared operations on records, lists and the dirty queue do, each said once: the record and the
lists after a change of one record, the queue after an index joined it, a line at rest, the count of an entry, and that the
tables keep their form. -/

namespace Sys2Proof.Laws

open Sys2Proof Sys2Proof.Machine

/-! ### Records -/

/-- The records after one was put in its place. -/
@[simp] theorem kit_putKit (s : State) (k : Nat) (kit : Kit) (j : Nat) :
    (s.putKit k kit).kit j = if j = k then kit else s.kit j := lookupAt_setAt s.roster k kit j

/-- A state's records depend on its roster only. -/
theorem kit_congr {s t : State} (h : t.roster = s.roster) (k : Nat) : t.kit k = s.kit k := by
  simp [State.kit, h]

/-- A state's lists depend on its scheduler's lists only. -/
theorem list_congr {s t : State} (h : t.scheduler.lists = s.scheduler.lists) (slot : Nat) : t.list slot = s.list slot := by
  simp [State.list, h]

/-! ### Pending lists (R72, R73) -/

theorem lookupAt_map_lists (m : List (Nat × List Nat)) (f : Nat × List Nat → List Nat)
    (hf : ∀ slot, f (slot, []) = []) (slot : Nat) :
    lookupAt [] (m.map fun e => (e.1, f e)) slot = f (slot, lookupAt [] m slot) := by
  induction m with
  | nil => simp [lookupAt, hf]
  | cons e t ih =>
    by_cases h : e.1 = slot
    · subst h; simp [lookupAt]
    · simp [lookupAt, h, ih]

theorem lookupAt_filter_nonempty (m : List (Nat × List Nat)) (h : m.Pairwise fun e e' => e.1 < e'.1) (slot : Nat) :
    lookupAt [] (m.filter fun e => e.2 != []) slot = lookupAt [] m slot := by
  induction m with
  | nil => rfl
  | cons e t ih =>
    rw [List.pairwise_cons] at h
    have ih := ih h.2
    by_cases he : e.2 = []
    · have hz : ∀ l : List (Nat × List Nat), (∀ e' ∈ l, e.1 < e'.1) → lookupAt [] l e.1 = [] := by
        intro l hl
        induction l with
        | nil => rfl
        | cons a l ihl =>
          have := hl a (by simp)
          have hne : a.1 ≠ e.1 := by omega
          simp only [lookupAt, hne, if_false]
          exact ihl fun e' h' => hl e' (by simp [h'])
      by_cases hs : e.1 = slot
      · subst hs
        simp only [List.filter_cons, he, bne_self_eq_false, Bool.false_eq_true, if_false, ih, lookupAt, if_true]
        exact hz t h.1
      · simp [he, ih, lookupAt, hs]
    · by_cases hs : e.1 = slot
      · subst hs; simp [he, lookupAt]
      · simp [he, ih, lookupAt, hs]

theorem leaveLists_eq (k : Nat) (keep : List Nat) (m : List (Nat × List Nat)) :
    leaveLists k keep m = (m.map fun e => (e.1, if keep.contains e.1 then e.2 else e.2.filter (· != k))).filter
      fun e => e.2 != [] := by
  unfold leaveLists
  congr 1
  refine List.map_congr_left fun e _ => ?_
  split <;> rfl

/-- The lists after a kit left all but some of them. -/
theorem lookupAt_leaveLists {m : List (Nat × List Nat)} (h : canonical [] m = true) (k : Nat) (keep : List Nat)
    (slot : Nat) : lookupAt [] (leaveLists k keep m) slot =
      if slot ∈ keep then lookupAt [] m slot else (lookupAt [] m slot).filter (· != k) := by
  rw [leaveLists_eq, lookupAt_filter_nonempty, lookupAt_map_lists m
    (fun e => if keep.contains e.1 then e.2 else e.2.filter (· != k))]
  · simp only [List.contains_iff_mem]
  · intro slot; simp
  · rw [List.pairwise_map]
    exact ((canonical_iff m).1 h).1

/-- Leaving lists keeps the canonical form. -/
theorem canonical_leaveLists {m : List (Nat × List Nat)} (h : canonical [] m = true) (k : Nat) (keep : List Nat) :
    canonical [] (leaveLists k keep m) = true := by
  rw [leaveLists_eq, canonical_iff]
  refine ⟨List.Pairwise.filter _ ?_, fun e he => by simpa using (List.mem_filter.1 he).2⟩
  rw [List.pairwise_map]
  exact ((canonical_iff m).1 h).1

/-- The lists after a kit joined one of them. -/
theorem lookupAt_joinList (k slot : Nat) (m : List (Nat × List Nat)) (x : Nat) :
    lookupAt [] (joinList k slot m) x =
      if x = slot ∧ k ∉ lookupAt [] m x then lookupAt [] m x ++ [k] else lookupAt [] m x := by
  unfold joinList
  by_cases h : k ∈ lookupAt [] m slot
  · simp only [h, if_true]
    by_cases hx : x = slot
    · subst hx; simp [h]
    · simp [hx]
  · simp only [h, if_false, lookupAt_setAt]
    by_cases hx : x = slot
    · subst hx; simp [h]
    · simp [hx]

/-- Joining a list keeps the canonical form. -/
theorem canonical_joinList {m : List (Nat × List Nat)} (h : canonical [] m = true) (k slot : Nat) :
    canonical [] (joinList k slot m) = true := by
  unfold joinList
  split
  · exact h
  · exact canonical_setAt h _ _

theorem canonical_foldl_joinList (k : Nat) (slots : List Nat) {m : List (Nat × List Nat)} (h : canonical [] m = true) :
    canonical [] (slots.foldl (fun m slot => joinList k slot m) m) = true := by
  induction slots generalizing m with
  | nil => exact h
  | cons a l ih => exact ih (canonical_joinList h k a)

theorem lookupAt_foldl_joinList (k : Nat) (slots : List Nat) (m : List (Nat × List Nat)) (x : Nat) :
    lookupAt [] (slots.foldl (fun m slot => joinList k slot m) m) x =
      if x ∈ slots ∧ k ∉ lookupAt [] m x then lookupAt [] m x ++ [k] else lookupAt [] m x := by
  induction slots generalizing m with
  | nil => simp
  | cons a l ih =>
    rw [List.foldl_cons, ih, lookupAt_joinList]
    by_cases hk : k ∈ lookupAt [] m x
    · simp [hk]
    · by_cases ha : x = a
      · subst ha; simp [hk]
      · simp [hk, ha]

/-- The lists after a kit's places were brought in line with the slots it is required in: it keeps its place or joins the
tail in those, leaves the others, and no other kit moves but up. -/
theorem lookupAt_relist {m : List (Nat × List Nat)} (h : canonical [] m = true) (k : Nat) (slots : List Nat) (x : Nat) :
    lookupAt [] (relist k slots m) x =
      if x ∈ slots then (if k ∈ lookupAt [] m x then lookupAt [] m x else lookupAt [] m x ++ [k])
      else (lookupAt [] m x).filter (· != k) := by
  rw [relist, lookupAt_foldl_joinList, lookupAt_leaveLists h]
  by_cases hx : x ∈ slots
  · by_cases hk : k ∈ lookupAt [] m x <;> simp [hx, hk]
  · simp [hx]

/-- Bringing a kit's places in line keeps the canonical form. -/
theorem canonical_relist {m : List (Nat × List Nat)} (h : canonical [] m = true) (k : Nat) (slots : List Nat) :
    canonical [] (relist k slots m) = true := canonical_foldl_joinList k slots (canonical_leaveLists h k slots)

/-- The lists after a record was put in its place. -/
theorem list_putKit {s : State} (h : canonical [] s.scheduler.lists = true) (k : Nat) (kit : Kit) (slot : Nat) :
    (s.putKit k kit).list slot =
      if slot ∈ kit.requiredSlots then (if k ∈ s.list slot then s.list slot else s.list slot ++ [k])
      else (s.list slot).filter (· != k) := lookupAt_relist h k kit.requiredSlots slot

/-- Putting a record in its place is the whole change of the records and the lists (R17, R73). -/
theorem recordIs_putKit {s : State} (h : s.tablesCanonical = true) (k : Nat) (kit : Kit) :
    s.recordIs (s.putKit k kit) k kit := by
  have hl : canonical [] s.scheduler.lists = true := by
    simp only [State.tablesCanonical, Bool.and_eq_true] at h; exact h.1.1.1.2
  exact ⟨by simp, fun j hj => by simp [hj], fun slot => list_putKit hl k kit slot⟩

/-- Putting a record in its place keeps the tables canonical. -/
theorem tablesCanonical_putKit {s : State} (h : s.tablesCanonical = true) (k : Nat) (kit : Kit) :
    (s.putKit k kit).tablesCanonical = true := by
  simp only [State.tablesCanonical, Bool.and_eq_true, putKit_roster, putKit_scheduler, putKit_store] at h ⊢
  exact ⟨⟨⟨⟨canonical_setAt h.1.1.1.1 _ _, canonical_relist h.1.1.1.2 _ _⟩, h.1.1.2⟩, h.1.2⟩, h.2⟩

/-- Putting a record in its place keeps the lists exactly what the records require. -/
theorem listsFollow_putKit {s : State} (h : s.tablesCanonical = true) (hf : s.listsFollow) (k : Nat) (kit : Kit) :
    (s.putKit k kit).listsFollow := by
  obtain ⟨hk, hj, hl⟩ := recordIs_putKit h k kit
  intro slot
  obtain ⟨hn, hm⟩ := hf slot
  rw [hl slot]
  refine ⟨?_, fun j => ?_⟩
  · split
    · split
      · exact hn
      · rename_i hk
        exact List.Nodup.append hn (by simp) (by simpa using hk)
    · exact hn.filter _
  · by_cases e : j = k
    · subst e; rw [hk]
      by_cases hs : slot ∈ kit.requiredSlots
      · by_cases hx : j ∈ s.list slot <;> simp [hs, hx]
      · simp [hs]
    · rw [hj j e, ← hm j]
      by_cases hs : slot ∈ kit.requiredSlots
      · by_cases hx : k ∈ s.list slot <;> simp [hs, hx, e]
      · simp [hs, e]

/-! ### The dirty queue (R145) -/

/-- The dirty queue after an index joined it. -/
theorem enqueue_queue (s : State) (k : Nat) :
    (s.enqueue k).store.queue = if k ∈ s.store.queue then s.store.queue else s.store.queue ++ [k] := by
  simp only [State.enqueue, onStore_store]; split <;> rfl

/-- An index joining the queue changes the queue only. -/
theorem enqueue_store (s : State) (k : Nat) :
    (s.enqueue k).store = { s.store with queue := (s.enqueue k).store.queue } := by
  simp only [State.enqueue, onStore_store]; split <;> rfl

/-- An index that joined the queue is in it. -/
theorem mem_enqueue (s : State) (k : Nat) : k ∈ (s.enqueue k).store.queue := by
  rw [enqueue_queue]; split <;> simp_all

/-- The queue keeps every index once. -/
theorem nodup_enqueue {s : State} (h : s.store.queue.Nodup) (k : Nat) : (s.enqueue k).store.queue.Nodup := by
  rw [enqueue_queue]
  split
  · exact h
  · rename_i hk; exact List.Nodup.append h (by simp) (by simpa using hk)

/-- A queue that can accept an index stays within its capacity when it joins. -/
theorem enqueue_within {s : State} {k : Nat} (h : s.canAccept k = true) (hq : s.store.queue.length ≤ queueCapacity) :
    (s.enqueue k).store.queue.length ≤ queueCapacity := by
  rw [enqueue_queue]
  simp only [State.canAccept, List.contains_iff_mem, Bool.or_eq_true, decide_eq_true_eq] at h
  split
  · exact hq
  · rename_i hk
    have := h.resolve_left hk
    simp; omega

/-- An applied request is the new record, its lists, and its index in the queue (R24). -/
theorem applyRecord_eq (s : State) (k : Nat) (kit : Kit) : s.applyRecord k kit = (s.putKit k kit).enqueue k := rfl

@[simp] theorem kit_applyRecord (s : State) (k : Nat) (kit : Kit) (j : Nat) :
    (s.applyRecord k kit).kit j = if j = k then kit else s.kit j := by
  rw [applyRecord_eq, kit_congr (enqueue_roster _ _), kit_putKit]

/-! ### Counters (R172) -/

/-- Raising a counter keeps all of them in range. -/
theorem Counters.inRange_raise (c : Counters) (w : Counter) (n : Nat) (h : c.inRange = true) :
    (c.raise w n).inRange = true := by
  simp only [Counters.inRange, Counters.toList, List.all_cons, List.all_nil, Bool.and_eq_true, Bool.and_true,
    decide_eq_true_eq] at h ⊢
  cases w <;> simp only [Counters.raise] <;> omega

/-! ### The lines (R99, R156) -/

/-- A byte takes ten bits on a line. -/
@[simp] theorem length_lineBits (b : Byte) : (lineBits b).length = 10 := rfl

/-- A line with nothing to send rests at the stop-bit level. -/
@[simp] theorem lineLevel_nil (i : Nat) : lineLevel [] i = true := rfl

/-! ### Counts at transmission (R85 to R89, R102) -/

/-- The sends of a kit after a counted pending send. -/
theorem sendsAfter_eq (g : Settings) (hold : Bool) (r : KitRec) :
    sendsAfter g hold r = if r.answers && g.uplink && hold then r.sends else min (r.sends + 1) 255 := by
  cases ha : r.answers <;> cases hu : g.uplink <;> cases hold <;> simp [sendsAfter, KitRec.replies, satSucc, ha, hu]

/-- The sends a count leaves: those of the record, but for a pending send. -/
theorem sends_afterCount (g : Settings) (now : Nat) (hold : Bool) (e : Entry) (r : KitRec) :
    (r.afterCount g now hold e).sends =
      if (Kit.enrolled r).countOutcome e = .pendingSend then sendsAfter g hold r else r.sends := by
  rw [sendsAfter_eq]
  cases h : (Kit.enrolled r).countOutcome e <;> simp only [KitRec.afterCount, h, reduceCtorEq, if_true, if_false]
  rw [apply_ite KitRec.sends, ite_self]

/-- The position the count of an entry gives the roll. -/
theorem countEntry_position (hold : Bool) (e : Entry) (s : State) :
    (s.countEntry hold e).2 = (s.kit e.kit).positionOf s.settings s.clock.absCycle hold e := by
  unfold State.countEntry
  split
  · rename_i r h
    simp only [h, Kit.positionOf, sends_afterCount, Kit.countOutcome]
    by_cases hi : r.issue = e.issue
    · by_cases hc : (r.settled || e.audit) = true <;> simp [hi, hc]
    · simp [hi]
  · rename_i h
    cases hk : s.kit e.kit with
    | enrolled r => exact absurd hk (h r)
    | free => rfl
    | damaged => rfl

end Sys2Proof.Laws
end

