-- ==== Sys2Proof/Laws/Requests.lean ====
section
/-! SUPPORT. What the shared operations on rolls, requests and writes can do: for each, every outcome it has, said once,
and what all of them leave as it was. -/

namespace Sys2Proof.Laws

open Sys2Proof Sys2Proof.Machine

/-! ### What requests, rolls and the start of writes leave alone -/

/-- What no reckoning, no close of a roll and no start of a write touches. -/
structure Kept (s t : State) : Prop where
  pins     : t.pins = s.pins
  clock    : t.clock = s.clock
  settings : t.settings = s.settings
  pending  : t.pending = s.pending
  cells    : t.store.cells = s.store.cells
  op       : t.link.op = s.link.op
  receiver : t.link.receiver = s.link.receiver
  counters : t.link.counters = s.link.counters

theorem Kept.refl (s : State) : Kept s s := ⟨rfl, rfl, rfl, rfl, rfl, rfl, rfl, rfl⟩

theorem Kept.trans {s t u : State} (h : Kept s t) (h' : Kept t u) : Kept s u :=
  ⟨h'.pins.trans h.pins, h'.clock.trans h.clock, h'.settings.trans h.settings, h'.pending.trans h.pending,
    h'.cells.trans h.cells, h'.op.trans h.op, h'.receiver.trans h.receiver, h'.counters.trans h.counters⟩

theorem kept_putKit (s : State) (k : Nat) (kit : Kit) : Kept s (s.putKit k kit) := ⟨rfl, rfl, rfl, rfl, rfl, rfl, rfl, rfl⟩

theorem kept_post (s : State) (n : NoticeKind) (k : Option Nat) : Kept s (s.post n k) :=
  ⟨rfl, rfl, rfl, rfl, rfl, by simp, by simp, by simp⟩

theorem kept_enqueue (s : State) (k : Nat) : Kept s (s.enqueue k) :=
  ⟨rfl, rfl, rfl, rfl, by rw [enqueue_store], rfl, rfl, rfl⟩

theorem kept_applyRecord (s : State) (k : Nat) (kit : Kit) : Kept s (s.applyRecord k kit) :=
  (kept_putKit s k kit).trans (kept_enqueue _ k)

theorem kept_answerHand (s : State) (h : Hand) (st : Status) (c : List Byte) : Kept s (s.answerHand h st c) :=
  ⟨rfl, rfl, rfl, rfl, rfl, rfl, rfl, rfl⟩

theorem kept_setHand (s : State) (h : Hand) : Kept s (s.setHand h) := ⟨rfl, rfl, rfl, rfl, rfl, rfl, rfl, rfl⟩

theorem kept_setWalk (s : State) (w : Option Walk) : Kept s (s.setWalk w) := ⟨rfl, rfl, rfl, rfl, rfl, rfl, rfl, rfl⟩

theorem kept_setHandler (s : State) (h : Handler) : Kept s (s.setHandler h) := ⟨rfl, rfl, rfl, rfl, rfl, rfl, rfl, rfl⟩

theorem kept_onBuilder (s : State) (f : Builder → Builder) : Kept s (s.onBuilder f) :=
  ⟨rfl, rfl, rfl, rfl, rfl, rfl, rfl, rfl⟩

theorem kept_onFramer (s : State) (f : Framer → Framer) : Kept s (s.onFramer f) := ⟨rfl, rfl, rfl, rfl, rfl, rfl, rfl, rfl⟩

/-! ### Rolls (R126 to R129) -/

/-- What the charge of one position does: nothing, or the kit's missed run rises, with what it reports posted after. -/
theorem chargePosition_cases (roll : Roll) (s : State) (p : Position) :
    s.chargePosition roll p = s ∨
      ∃ r, s.kit p.kit = .enrolled r ∧ charged s.settings roll p r = true ∧
        let run := satSucc 15 r.missed
        let u := s.putKit p.kit
          (.enrolled { r with missed := run, silentReported := r.silentReported || silentDue s.settings r })
        let v := if silentDue s.settings r then u.post (.silent run r.lastHeard) (some p.kit) else u
        s.chargePosition roll p =
          if unreachedDue s.settings p r then v.post (.unreached p.issue p.sends run) (some p.kit) else v := by
  unfold State.chargePosition
  split
  · rename_i r h
    split
    · rename_i hc
      refine .inr ⟨r, h, hc, ?_⟩
      by_cases hs : silentDue s.settings r = true <;> simp [hs]
    · exact .inl rfl
  · exact .inl rfl

theorem kept_chargePosition (roll : Roll) (s : State) (p : Position) : Kept s (s.chargePosition roll p) := by
  rcases chargePosition_cases roll s p with h | ⟨r, -, -, h⟩
  · rw [h]; exact .refl s
  · rw [h]
    have h1 := fun kit => kept_putKit s p.kit kit
    split <;> split
    · exact ((h1 _).trans (kept_post _ _ _)).trans (kept_post _ _ _)
    · exact (h1 _).trans (kept_post _ _ _)
    · exact (h1 _).trans (kept_post _ _ _)
    · exact h1 _

theorem kept_foldl {β : Type} (f : State → β → State) (hf : ∀ s b, Kept s (f s b)) (l : List β) (s : State) :
    Kept s (l.foldl f s) := by
  induction l generalizing s with
  | nil => exact .refl s
  | cons b l ih => exact (hf s b).trans (ih (f s b))

theorem kept_closeRoll (s : State) (roll : Roll) : Kept s (s.closeRoll roll) :=
  (kept_foldl _ (kept_chargePosition roll) _ s).trans (kept_onBuilder _ _)

theorem kept_closeDone (s : State) : Kept s s.closeDone := kept_foldl _ kept_closeRoll _ s

theorem kept_finishFrame (s : State) : Kept s s.finishFrame :=
  ((kept_onFramer s _).trans (kept_setHandler _ _)).trans (kept_closeDone _)

/-! ### The walk and the command in hand -/

/-- What the end of a record of the walk does: the walk ends, aborted or at the end of the roster, or goes on to the next
index. -/
theorem finishIndex_cases (s : State) (w : Walk) (changed : Bool) :
    let w' : Walk := { w with next := w.next + 1, changed := w.changed + changed.toNat, inHand := false }
    (w.abort = true ∧ s.finishIndex w changed = s.endWalk w' true) ∨
    (w.abort = false ∧ 4095 ≤ w.next ∧ s.finishIndex w changed = s.endWalk w' false) ∨
    (w.abort = false ∧ w.next < 4095 ∧ s.finishIndex w changed = s.setWalk (some w')) := by
  intro w'
  simp only [State.finishIndex, rosterSize]
  by_cases ha : w.abort = true
  · exact .inl ⟨ha, by simp [ha, w']⟩
  · have ha' : w.abort = false := by simpa using ha
    by_cases hn : 4095 ≤ w.next
    · exact .inr (.inl ⟨ha', hn, by simp [ha', w', show 4096 ≤ w.next + 1 by omega]⟩)
    · exact .inr (.inr ⟨ha', by omega, by simp [ha', w', show ¬ 4096 ≤ w.next + 1 by omega]⟩)

theorem kept_endWalk (s : State) (w : Walk) (a : Bool) : Kept s (s.endWalk w a) :=
  (kept_setWalk s none).trans (kept_post _ _ _)

theorem kept_finishIndex (s : State) (w : Walk) (changed : Bool) : Kept s (s.finishIndex w changed) := by
  rcases finishIndex_cases s w changed with ⟨-, h⟩ | ⟨-, -, h⟩ | ⟨-, -, h⟩ <;> rw [h]
  · exact kept_endWalk _ _ _
  · exact kept_endWalk _ _ _
  · exact kept_setWalk _ _

/-- The reply of the command in hand is sent when nothing is left to reckon or to verify, and otherwise nothing
happens. -/
theorem settleHand_cases (s : State) :
    s.settleHand = s ∨ ∃ h, s.link.hand = some h ∧ h.reckoned = true ∧ h.awaits = [] ∧ h.settings = false ∧
      s.settleHand = s.answerHand h h.status h.content := by
  unfold State.settleHand
  split
  · rename_i h hh
    split
    · rename_i hc
      simp only [Bool.and_eq_true, List.isEmpty_iff, Bool.not_eq_true'] at hc
      exact .inr ⟨h, hh, hc.1.1, hc.1.2, hc.2, rfl⟩
    · exact .inl rfl
  · exact .inl rfl

theorem kept_settleHand (s : State) : Kept s s.settleHand := by
  rcases settleHand_cases s with h | ⟨h', -, -, -, -, h⟩ <;> rw [h]
  · exact .refl s
  · exact kept_answerHand s _ _ _

/-! ### Reckoning (R41, R63, R137, R53) -/

/-- What a reckoning of the command in hand does, but for ENROL BLOCK: it answers, or applies the new record and fixes
the reply. -/
theorem reckonLink_cases {s : State} {h : Hand} (hh : s.link.hand = some h) (hr : h.reckoned = false)
    (hk : h.kind ≠ .enrolBlock) :
    (∃ st content, commandVerdict s h.kind h.payload (s.kit (kitArg h.payload)) = .answer st content ∧
      s.reckonLink = s.answerHand h st content) ∨
    ∃ kit st content, commandVerdict s h.kind h.payload (s.kit (kitArg h.payload)) = .apply kit st content ∧
      s.reckonLink = (s.applyRecord (kitArg h.payload) kit).setHand
        { h with reckoned := true, status := st, content := content, awaits := [(kitArg h.payload, false)] } := by
  simp only [State.reckonLink, hh, hr, Bool.false_eq_true, if_false, hk]
  split
  · rename_i st content hv; exact .inl ⟨st, content, hv, rfl⟩
  · rename_i kit st content hv; exact .inr ⟨kit, st, content, hv, rfl⟩

theorem kept_reckonBlock (s : State) (h : Hand) : Kept s (s.reckonBlock h) := by
  unfold State.reckonBlock
  dsimp only
  split
  · exact (kept_setHand s _).trans (kept_settleHand _)
  · exact (kept_applyRecord s _ _).trans (kept_setHand _ _)

theorem kept_reckonLink (s : State) : Kept s s.reckonLink := by
  unfold State.reckonLink
  split
  · exact .refl s
  · split
    · exact .refl s
    · split
      · exact kept_reckonBlock s _
      · dsimp only
        split
        · exact kept_answerHand s _ _ _
        · exact (kept_applyRecord s _ _).trans (kept_setHand _ _)

theorem kept_reckonWalker (s : State) : Kept s s.reckonWalker := by
  unfold State.reckonWalker
  split
  · exact .refl s
  · split
    · split
      · split
        · exact (kept_applyRecord s _ _).trans (kept_finishIndex _ _ _)
        · exact kept_finishIndex s _ _
      · exact kept_finishIndex s _ _
    · exact .refl s

theorem kept_reckonMove (k : Nat) (s : State) : Kept s (s.reckonMove k) := by
  unfold State.reckonMove
  split
  · split
    · exact (kept_applyRecord s _ _).trans (kept_post _ _ _)
    · exact .refl s
  · exact .refl s

theorem kept_reckonTamper (k : Nat) (s : State) : Kept s (s.reckonTamper k) := by
  unfold State.reckonTamper
  split
  · split
    · exact (kept_applyRecord s _ _).trans (kept_post _ _ _)
    · exact .refl s
  · exact .refl s

theorem kept_reckonHandler (s : State) : Kept s s.reckonHandler := by
  unfold State.reckonHandler
  split
  · exact .refl s
  · rename_i q second _
    cases q <;> cases second
    · exact (kept_reckonMove _ s).trans (kept_finishFrame _)
    · exact (kept_reckonMove _ s).trans (kept_setHandler _ _)
    · exact (kept_reckonTamper _ s).trans (kept_finishFrame _)
    · exact (kept_reckonTamper _ s).trans (kept_setHandler _ _)

theorem kept_serve (s : State) (r : Requester) : Kept s (s.serve r) := by
  cases r
  · exact kept_reckonLink s
  · exact kept_reckonWalker s
  · exact kept_reckonHandler s

theorem kept_serveIfFor (k : Nat) (s : State) (r : Requester) : Kept s (s.serveIfFor k r) := by
  unfold State.serveIfFor
  split
  · exact kept_serve s r
  · exact .refl s

theorem kept_serveAccepted (s : State) (r : Requester) : Kept s (s.serveAccepted r) := by
  unfold State.serveAccepted
  split
  · exact .refl s
  · dsimp only
    split
    · exact ((kept_serve s r).trans (kept_serveIfFor _ _ _)).trans (kept_serveIfFor _ _ _)
    · exact kept_serve s r

theorem kept_rotation (s : State) (r : Requester) : Kept s (s.onStore fun c => { c with rotation := r }) :=
  ⟨rfl, rfl, rfl, rfl, rfl, rfl, rfl, rfl⟩

theorem kept_giveRoom (n : Nat) (s : State) : Kept s (s.giveRoom n) := by
  induction n generalizing s with
  | zero => exact .refl s
  | succ n ih =>
    unfold State.giveRoom
    split
    · split
      · exact ((kept_serveAccepted s _).trans (kept_rotation _ _)).trans (ih _)
      · exact .refl s
    · exact .refl s

/-! ### Writes (R147, R148, R151) -/

theorem kept_startRecordWrite (k : Nat) (rest : List Nat) (s : State) : Kept s (s.startRecordWrite k rest) := by
  unfold State.startRecordWrite
  have h : Kept s ((s.onStore fun c => { c with queue := rest }).onLink fun l =>
      { l with hand := l.hand.map (markStarted k) }) := ⟨rfl, rfl, rfl, rfl, rfl, rfl, rfl, rfl⟩
  have h' : ∀ m t, Kept t (t.onStore fun c => { c with mode := m }) := fun m t => ⟨rfl, rfl, rfl, rfl, rfl, rfl, rfl, rfl⟩
  dsimp only
  split
  · exact (h.trans (kept_giveRoom _ _)).trans (h' _ _)
  · exact h.trans (h' _ _)

/-- What the controller does when it may start a write: nothing while it is busy or has nothing to write; the owed
settings write before any other; else the record at the head of the queue. -/
theorem startNextWrite_cases (s : State) :
    (s.startNextWrite = s ∧ (s.store.mode ≠ .idle ∨ (s.store.owed = false ∧ s.store.queue = []))) ∨
    (s.store.mode = .idle ∧ s.store.owed = true ∧ s.startNextWrite =
      s.onStore fun c => { c with mode := .saving (settingsImage s.settings s.scheduler.pattern) 1 }) ∨
    ∃ k rest, s.store.mode = .idle ∧ s.store.owed = false ∧ s.store.queue = k :: rest ∧
      s.startNextWrite = s.startRecordWrite k rest := by
  unfold State.startNextWrite
  split
  · rename_i hm
    split
    · rename_i ho; exact .inr (.inl ⟨hm, ho, rfl⟩)
    · rename_i ho
      have ho : s.store.owed = false := by simpa using ho
      split
      · rename_i hq; exact .inl ⟨rfl, .inr ⟨ho, hq⟩⟩
      · rename_i k rest hq; exact .inr (.inr ⟨k, rest, hm, ho, hq, rfl⟩)
  · rename_i hm; exact .inl ⟨rfl, .inl hm⟩

theorem kept_startNextWrite (s : State) : Kept s s.startNextWrite := by
  rcases startNextWrite_cases s with ⟨h, -⟩ | ⟨-, -, h⟩ | ⟨k, rest, -, -, -, h⟩ <;> rw [h]
  · exact .refl s
  · exact ⟨rfl, rfl, rfl, rfl, rfl, rfl, rfl, rfl⟩
  · exact kept_startRecordWrite k rest s

/-- What making a request does: it waits with nothing changed, or it is accepted and reckoned and a write may start. -/
theorem tryAccept_cases (s : State) (r : Requester) :
    (s.tryAccept r = s ∧ ∀ k, s.wants r = some k → s.canAccept k = false) ∨
    ∃ k, s.wants r = some k ∧ s.canAccept k = true ∧ s.tryAccept r = (s.serveAccepted r).startNextWrite := by
  unfold State.tryAccept
  split
  · rename_i k hk
    split
    · rename_i hc; exact .inr ⟨k, hk, hc, rfl⟩
    · rename_i hc
      exact .inl ⟨rfl, fun j hj => by rw [hk] at hj; cases hj; simpa using hc⟩
  · rename_i hn; exact .inl ⟨rfl, fun k hk => by rw [hn] at hk; cases hk⟩

theorem kept_tryAccept (s : State) (r : Requester) : Kept s (s.tryAccept r) := by
  rcases tryAccept_cases s r with ⟨h, -⟩ | ⟨k, -, -, h⟩ <;> rw [h]
  · exact .refl s
  · exact (kept_serveAccepted s r).trans (kept_startNextWrite _)

/-- With no other request waiting, an accepted request is reckoned and nothing else is. -/
theorem serveAccepted_alone {s : State} {r : Requester} {k : Nat} (h : s.wants r = some k)
    (h1 : (s.serve r).wants r.next ≠ some k) (h2 : (s.serve r).wants r.next.next ≠ some k) :
    s.serveAccepted r = s.serve r := by
  simp only [State.serveAccepted, h, State.serveIfFor, h1, if_false, h2, ite_self]

/-- What a failed attempt does: nothing without a write; a further attempt with the same image, counted; or, after the
third, a store fault. -/
theorem attemptFailed_cases (e : Bool) (s : State) :
    (∃ k image n, s.store.mode = .writing k image n ∧
      ((n < 3 ∧ s.attemptFailed e =
        (s.onStore fun c => { c with mode := .writing k image (n + 1) }).raise .storeRetries) ∨
       (3 ≤ n ∧ s.attemptFailed e = s.storeFault (.kit k) e))) ∨
    (∃ image n, s.store.mode = .saving image n ∧
      ((n < 3 ∧ s.attemptFailed e =
        (s.onStore fun c => { c with mode := .saving image (n + 1) }).raise .storeRetries) ∨
       (3 ≤ n ∧ s.attemptFailed e = s.storeFault .settings e))) ∨
    s.attemptFailed e = s := by
  unfold State.attemptFailed
  split
  · rename_i k image n hm
    refine .inl ⟨k, image, n, hm, ?_⟩
    split
    · rename_i hn; exact .inl ⟨hn, rfl⟩
    · rename_i hn; exact .inr ⟨by omega, rfl⟩
  · rename_i image n hm
    refine .inr (.inl ⟨image, n, hm, ?_⟩)
    split
    · rename_i hn; exact .inl ⟨hn, rfl⟩
    · rename_i hn; exact .inr ⟨by omega, rfl⟩
  · exact .inr (.inr rfl)

/-! ### Frames of the station link (R160, R162) -/

/-- What the tests of a frame do with it: a part that takes no bytes does nothing; a frame that is not taken is answered or
discarded; a taken one is refused by the state or the clock, or goes to its command's rule. -/
theorem receiveFrame_cases (k : CmdKind) (tag : Byte) (p : List Byte) (rule : Byte → List Byte → State → State)
    (s : State) :
    let u := s.onLink fun l => { l with receiver := .waiting }
    (s.live = false ∧ s.receiveFrame k tag p rule = s) ∨
    (s.live = true ∧ ((∃ r, s.receiveFrame k tag p rule = u.answerUntaken r) ∨
      s.receiveFrame k tag p rule = u.raise .linkRejects ∨
      (s.ready k tag p = false ∧ ∃ st c, s.receiveFrame k tag p rule = u.answerNow k tag p st c) ∨
      (s.ready k tag p = true ∧ s.receiveFrame k tag p rule = rule tag p u))) := by
  intro u
  unfold State.receiveFrame
  by_cases hl : s.live = true
  · refine .inr ⟨hl, ?_⟩
    rw [if_pos hl]
    dsimp only
    by_cases hh : s.link.hand.isSome = true
    · rw [if_pos (by simpa using hh)]; exact .inl ⟨_, rfl⟩
    · rw [if_neg (by simpa using hh)]
      have hrep : u.repeatOf k tag p = s.repeatOf k tag p := rfl
      split
      · exact .inl ⟨_, rfl⟩
      · rename_i hr
        have hr : s.repeatOf k tag p = none := hr
        by_cases hp : (p.length != requiredLength k p) = true
        · rw [if_pos hp]; exact .inl ⟨_, rfl⟩
        · rw [if_neg hp]
          by_cases hc : replyCapacity ≤ s.link.replies.length
          · rw [if_pos (by simpa using hc)]; exact .inr (.inl rfl)
          · rw [if_neg (by simpa using hc)]
            refine .inr (.inr ?_)
            have base : s.ready k tag p = (admits k s.link.op && (!gated k || s.clock.isSet)) := by
              simp only [bne_iff_ne, ne_eq, Decidable.not_not] at hp
              have hh' : s.link.hand.isNone = true := by simpa using hh
              have hc' : s.link.replies.length < replyCapacity := by omega
              simp [State.ready, hl, hh', hr, hp, hc']
            unfold State.admitFrame
            by_cases ha : admits k s.link.op = true
            · by_cases hg : (gated k && !s.clock.isSet) = true
              · left
                refine ⟨?_, .noClock, [], ?_⟩
                · simp only [Bool.and_eq_true, Bool.not_eq_true'] at hg
                  rw [base]; simp [hg]
                · simp [ha, hg, u]
              · right
                refine ⟨?_, ?_⟩
                · rw [base, ha]; cases h1 : gated k <;> cases h2 : s.clock.isSet <;> simp_all
                · have hg' : (gated k && !s.clock.isSet) = false := by simpa using hg
                  simp [ha, hg', u]
            · left
              have ha' : admits k s.link.op = false := by simpa using ha
              exact ⟨by rw [base]; simp [ha'], .state, be1 s.link.op.code, by simp [ha', u]⟩
  · have hl' : s.live = false := by simpa using hl
    exact .inl ⟨hl', by simp [hl']⟩

/-- A frame that meets the tests goes to its command's rule. -/
theorem receiveFrame_ready {k : CmdKind} {tag : Byte} {p : List Byte} {s : State} (h : s.ready k tag p = true)
    (rule : Byte → List Byte → State → State) :
    s.receiveFrame k tag p rule = rule tag p (s.onLink fun l => { l with receiver := .waiting }) := by
  simp only [State.ready, Bool.and_eq_true, Option.isNone_iff_eq_none, beq_iff_eq, decide_eq_true_eq] at h
  obtain ⟨⟨⟨⟨⟨⟨hl, hh⟩, hr⟩, hp⟩, hc⟩, ha⟩, hg⟩ := h
  have hr' : (s.onLink fun l => { l with receiver := .waiting }).repeatOf k tag p = none := hr
  have hc' : ¬ replyCapacity ≤ s.link.replies.length := by omega
  have hg' : (gated k && !s.clock.isSet) = false := by
    cases h1 : gated k <;> cases h2 : s.clock.isSet <;> simp_all
  simp only [State.receiveFrame, hl, if_true, onLink_link, hh, Option.isSome_none, Bool.false_eq_true, if_false, hr',
    ← hp, bne_self_eq_false, hc', State.admitFrame, ha, Bool.not_true, onLink_clock, hg']

/-! ### Preparations and slot starts -/

/-- A preparation changes the scheduler and the PREPARING buffer, and nothing else. -/
theorem prepare_frame (s : State) :
    s.prepare = { s with
      scheduler := s.prepare.scheduler
      builder := { s.builder with preparing := s.prepare.builder.preparing } } := rfl

/-- What a preparation leaves of the scheduler as it was, and the slot it was made for. -/
@[simp] theorem prepare_lists (s : State) : s.prepare.scheduler.lists = s.scheduler.lists := rfl
@[simp] theorem prepare_pattern (s : State) : s.prepare.scheduler.pattern = s.scheduler.pattern := rfl
@[simp] theorem prepare_preparedFor (s : State) : s.prepare.scheduler.preparedFor = some s.clock.advance.slot := rfl

/-- A preparation begins with both buffers free, and otherwise nothing changes. -/
theorem beginPreparation_cases (s : State) :
    (s.builder.preparing = none ∧ s.builder.ready = none ∧ s.beginPreparation = s.prepare) ∨
      ((s.builder.preparing ≠ none ∨ s.builder.ready ≠ none) ∧ s.beginPreparation = s) := by
  unfold State.beginPreparation
  cases s.builder.preparing <;> cases s.builder.ready <;> simp

/-- At a slot start the builder sends the slot's READY burst, misses the slot's unfinished preparation, or does nothing. -/
theorem builderAtSlotStart_cases (s : State) :
    (∃ b, s.builder.ready = some b ∧ b.slot = s.clock.slot ∧ s.link.op = .onAir ∧ s.builderAtSlotStart = s.goOnAir b) ∨
      ((∀ b, s.builder.ready = some b → s.link.op ≠ .onAir ∨ b.slot ≠ s.clock.slot) ∧
        ((∃ b, s.builder.preparing = some b ∧ b.slot = s.clock.slot ∧ s.builderAtSlotStart =
            (s.onBuilder fun q => { q with preparing := none }).raise .missedSlots) ∨
          ((∀ b, s.builder.preparing = some b → b.slot ≠ s.clock.slot) ∧ s.builderAtSlotStart = s))) := by
  unfold State.builderAtSlotStart
  rcases hr : s.builder.ready with _ | b <;> rcases hp : s.builder.preparing with _ | q <;>
    simp only [Option.filter_none, Option.filter_some] <;> (try by_cases h1 : b.slot = s.clock.slot) <;>
    (try by_cases h2 : s.link.op = .onAir) <;> (try by_cases h3 : q.slot = s.clock.slot) <;> simp [*]

end Sys2Proof.Laws
end

