-- ==== Sys2Proof/Tests/Slice0.lean ====
section
/-! SUPPORT. Tests: the well-formedness checks, the formats against figures of the manual, the manual's worked examples,
and small tests of the commands. Expected values come from the manual's tables or are worked out by hand from its rules;
each test names its source. -/

namespace Sys2Proof.Machine

/-- The part with one more kit (for the tests). -/
def State.holding (k : Nat) (r : KitRec) (s : State) : State := s.putKit k (.enrolled r)

end Sys2Proof.Machine

namespace Sys2Proof.Tests

open Sys2Proof Sys2Proof.Machine

/-! ### Helpers -/

/-- The state a command leaves, if it answers one. -/
def after (c : Instr) (s : State) : Option State :=
  match exec c s with
  | .next t => some t
  | _ => none

/-- The states a run of commands ends in. -/
def afterAll : List Instr → State → Option State
  | [], s => some s
  | c :: cs, s => (after c s).bind (afterAll cs)

/-- A part in this operating state at hour 120,000, cycle 5, slot 56, in the downlink window, with nothing to write. -/
def at' (op : OpState) : State :=
  { State.reset with
    clock := { isSet := true, dh := 120000, cycle := 5, slot := 56, endOfCount := false, timer := .downlink, tickDue := false }
    settings := { Settings.default with district := 3306 }
    store := { State.reset.store with mode := .idle }
    link := { State.reset.link with op := op } }

/-- An ACTIVE answering kit of slot 57 with this issue and horizon, as an enrolment leaves it. -/
def kitOf (issue : Issue) (horizon : Nat) : KitRec := enrolledRec 0x11223344 true 57 horizon issue

/-- The reply's status byte and content at the tail of the reply list. -/
def lastReply (s : State) : List Byte := (s.link.replies.getLast?.map Reply.payload).getD []

/-! ### Well-formedness: each check refuses an ill-formed term -/

theorem test_wf_sub_window_0 : (Instr.replySubWindowStart 0).wellFormed = false := by decide
theorem test_wf_sub_window_7 : (Instr.replySubWindowStart 7).wellFormed = false := by decide
theorem test_wf_read_back_short : (Instr.storeAttemptComplete (.readBack [1, 2])).wellFormed = false := by decide
theorem test_wf_error_left_short : (Instr.storeAttemptComplete (.inError [])).wellFormed = false := by decide
theorem test_wf_timeout_left_short : (Instr.storeMemoryTimeout (List.replicate 18 0)).wellFormed = false := by decide
theorem test_wf_settings_read_short : (Instr.settingsBlockRead (.bytes (List.replicate 63 0))).wellFormed = false := by
  decide
theorem test_wf_kit_read_long : (Instr.kitRecordRead (.bytes (List.replicate 20 0))).wellFormed = false := by decide
theorem test_wf_reject_gap : (Instr.linkFrameReject .gap).wellFormed = false := by decide
theorem test_wf_unknown_kind_known : (Instr.unknownKindFrame 0x20 1).wellFormed = false := by decide
theorem test_wf_payload_long : (Instr.grant 1 (List.replicate 254 0)).wellFormed = false := by decide +kernel
theorem test_wf_accepts : (Instr.grant 1 (be2 5 ++ be2 72 ++ be1 1)).wellFormed = true ∧
    (Instr.replySubWindowStart 6).wellFormed = true ∧ (Instr.unknownKindFrame 0x7F 1).wellFormed = true := by decide

/-! ### Formats (chapter 11) -/

/-- Chapter 11: the check of the nine ASCII bytes "123456789". -/
theorem test_crc_of_123456789 :
    crc16 [0x31, 0x32, 0x33, 0x34, 0x35, 0x36, 0x37, 0x38, 0x39] = 0x29B1 := by decide +kernel

/-- A header-only burst of district 3,306 for hour 120,000, cycle 5, slot 57 with reply hold (R180): 3,306 is 0x0CEA,
120,000 is 0x01D4C0, 57 is 0x39, the count byte is 0x80. -/
theorem test_header_bytes :
    (Burst.bytes { slot := 57, cycle := 5, dh := 120000, targetCycle := 7200005, hold := true, district := 3306
                   entries := [], encoded := [] }).take 10 =
      [0x5A, 0xC6, 0x0C, 0xEA, 0x01, 0xD4, 0xC0, 0x05, 0x39, 0x80] := by decide +kernel

/-- The stored bytes of an ACTIVE answering kit with a move pending from slot 57 to slot 90 (R183): state 1 with bits 4
and 5, issue 43 as move issue and issue, horizon 120,072. -/
theorem test_record_bytes :
    (recordImage 1207 (.enrolled { kitOf 43 120072 with ordered := 90, moveIssue := some 43 })).take 17 =
      [0x31, 0x11, 0x22, 0x33, 0x44, 0x39, 0x5A, 0x00, 0x2B, 0x01, 0xD5, 0x08, 0x00, 0x00, 0x00, 0x2B, 0x00] := by
  decide +kernel

/-- A record read at another kit's place is DAMAGED: its check covers the kit number (R35, R183). -/
theorem test_record_of_another_kit : loadedKit 1208 (recordImage 1207 (.enrolled (kitOf 43 120072))) = .damaged := by
  decide +kernel

/-- An erased record and a zeroed one are FREE (R35). -/
theorem test_blank_records : loadedKit 3 (List.replicate 19 0xFF) = .free ∧ loadedKit 3 (List.replicate 19 0) = .free := by
  decide +kernel

/-- A byte on a line: start bit, eight data bits from bit 0, stop bit (R99). -/
theorem test_line_bits :
    lineBits 0x5A = [false, false, true, false, true, true, false, true, false, true] := by decide

/-! ### Credit (chapter 3, worked arithmetic 3.10) -/

/-- 3.10, steps 1 and 2: GRANT 72 and GRANT 8,760 at hour 120,000 under an advance limit of 8,760. -/
theorem test_credit_grants :
    grantHorizon 120000 128760 119990 72 = 120072 ∧ grantAccepted 120000 128760 119990 72 = 72 ∧
      grantHorizon 120000 128760 120072 8760 = 128760 ∧ grantAccepted 120000 128760 120072 8760 = 8688 := by decide

/-- 3.10, steps 3 to 5: WITHDRAW, GRANT to the HELD kit, RESUME, and the RESUME under an advance limit of 4,380. -/
theorem test_credit_hold_and_return :
    withdrawHeld 120010 128760 = 8750 ∧ withdrawLost 120010 128760 = 0 ∧ grantHeld 8760 8750 100 = 8760 ∧
      resumeHorizon 120500 129260 8760 = 129260 ∧ resumeHorizon 120500 124880 8760 = 124880 ∧
      resumeLost 120500 124880 8760 = 4380 := by decide

/-- 3.10: the ceiling at the end of the hour count, the grant of one hour there, and the clock set back. -/
theorem test_credit_edges :
    ceiling 16777214 8760 = 16777215 ∧ grantAccepted 16777214 16777215 16777000 72 = 1 ∧
      grantAccepted 16777215 16777215 16777215 72 = 0 ∧ withdrawHeld 110000 128760 = 17520 ∧
      withdrawLost 110000 128760 = 1240 ∧ resumeHorizon 110000 118760 17520 = 118760 ∧
      resumeLost 110000 118760 17520 = 8760 := by decide

/-- 3.8: issues compared across the wrap. -/
theorem test_issue_readings :
    readIssue 42 42 = .current ∧ readIssue 65534 5 = .behind ∧ readIssue 32869 100 = .behind ∧
      readIssue 32868 100 = .ahead ∧ readIssue 101 100 = .ahead ∧ readIssue 65535 0 = .behind := by decide

/-- The kit of 2.6 after ENROL and before its grant. -/
def enrolled1207 : State := (at' .onAir).holding 1207 (kitOf 41 120000)

/-- 2.6: GRANT 72 with notify at hour 120,000: issue 42, horizon 120,072, unlock and notify set; the reply waits. -/
theorem test_grant_applied :
    (after (.grant 9 (be2 1207 ++ be2 72 ++ be1 1)) enrolled1207).map (fun t => (t.kit 1207, t.link.replies.length)) =
      some (.enrolled { kitOf 42 120072 with unlock := true, notify := true }, 0) := by decide +kernel

/-- 2.6, R58: the verified write sends the OK with 72 hours, state 1, horizon 120,072, issue 42 and ceiling 128,760. -/
theorem test_grant_reply :
    (afterAll [.grant 9 (be2 1207 ++ be2 72 ++ be1 1), .storeAttemptComplete .good] enrolled1207).map lastReply =
      some [0x00, 0x00, 0x48, 0x01, 0x01, 0xD5, 0x08, 0x00, 0x2A, 0x01, 0xF6, 0xF8] := by decide +kernel

/-- R46: SET HORIZON above the ceiling 128,760 is answered RANGE with that ceiling. -/
theorem test_set_horizon_range :
    (after (.setHorizon 9 (be2 1207 ++ be3 128761 ++ be1 0)) enrolled1207).map lastReply =
      some [0x06, 0x01, 0xF6, 0xF8] := by decide +kernel

/-- R48: WITHDRAW at hour 120,000 of a kit with horizon 120,072 holds 72 hours. -/
theorem test_withdraw :
    (after (.withdraw 9 (be2 3 ++ be1 0)) ((at' .standby).holding 3 (kitOf 8 120072))).map (fun t => t.kit 3) =
      some (.enrolled { kitOf 9 120000 with heldHours := some 72 }) := by decide +kernel

/-- R50: RESUME of a kit with 72 held hours at hour 120,000. -/
theorem test_resume :
    (after (.resume 9 (be2 3 ++ be1 0)) ((at' .standby).holding 3 { kitOf 9 120000 with heldHours := some 72 })).map
      (fun t => t.kit 3) = some (.enrolled { kitOf 10 120072 with unlock := true }) := by decide +kernel

/-! ### The roster (chapter 2, chapter 8) -/

/-- 2.6: ENROL of kit 1,207 in slot 57 with horizon 120,000 and issue 41: the record and its place in slot 57's list. -/
theorem test_enrol :
    (after (.enrol 1 (be2 1207 ++ be4 0x11223344 ++ be1 1 ++ be1 57 ++ be3 120000 ++ be2 41)) (at' .onAir)).map
      (fun t => (t.kit 1207, t.list 57)) = some (.enrolled (kitOf 41 120000), [1207]) := by decide +kernel

/-- R29, R30: an ENROL BLOCK of two kits, the second above kit number 4,095, enrols one and ends in NO KIT with 1. -/
theorem test_enrol_block_past_the_end :
    (afterAll [.enrolBlock 1 (be2 4095 ++ be1 2 ++ (be4 7 ++ be1 1 ++ be1 0 ++ be3 0 ++ be2 5) ++
      (be4 8 ++ be1 1 ++ be1 0 ++ be3 0 ++ be2 5)), .storeAttemptComplete .good] (at' .standby)).map
      (fun t => (lastReply t, t.kit 4095)) =
      some ([0x07, 0x01], .enrolled (enrolledRec 7 true 0 0 5)) := by decide +kernel

/-- R31: RETIRE leaves the kit FREE and in no list. -/
theorem test_retire :
    (after (.retire 1 (be2 1207)) enrolled1207).map (fun t => (t.kit 1207, t.list 57)) = some (.free, []) := by
  decide +kernel

/-- R33: RESTORE of a DAMAGED kit sets it as ENROL would. -/
theorem test_restore :
    (after (.restore 1 (be2 7 ++ be4 0x11223344 ++ be1 1 ++ be1 57 ++ be3 120000 ++ be2 41))
      ((at' .onAir).putKit 7 .damaged)).map (fun t => t.kit 7) = some (.enrolled (kitOf 41 120000)) := by decide +kernel

/-- R34, R178: READ KIT of a FREE kit, and above the roster. -/
theorem test_read_kit :
    (after (.readKit 1 (be2 7)) (at' .onAir)).map lastReply = some (List.replicate 33 0) ∧
      (after (.readKit 1 (be2 4096)) (at' .onAir)).map lastReply = some [0x07] := by decide +kernel

/-- 8.5: the MOVE of kit 1,207 from slot 57 to slot 90, at issue 42. -/
theorem test_move :
    (after (.move 1 (be2 1207 ++ be1 90 ++ be1 1)) ((at' .onAir).holding 1207
      { kitOf 42 120072 with confirmed := some 42, settled := true })).map (fun t => (t.kit 1207, t.list 57, t.list 90)) =
      some (.enrolled { kitOf 43 120072 with
        ordered := 90, moveIssue := some 43, confirmed := some 42, notify := true }, [1207], []) := by decide +kernel

/-- R41, R146: a command that waits for a full queue is reckoned when a write start makes room. -/
theorem test_command_reckoned_at_write_start :
    let s : State := { (at' .onAir).holding 100 (kitOf 8 120072) with
      store := { (at' .onAir).store with queue := (List.range 32), mode := .writing 50 [] 3 } }
    (after (.withdraw 9 (be2 100 ++ be1 0)) s).map (fun t => t.kit 100) = some (.enrolled (kitOf 8 120072)) ∧
    (afterAll [.withdraw 9 (be2 100 ++ be1 0), .storeAttemptComplete (.readBack (List.replicate 19 0xFF))]
      { s with store := { s.store with mode := .writing 50 (List.replicate 19 0xFF) 1 } }).map
      (fun t => (t.kit 100, t.store.queue.length)) =
      some (.enrolled { kitOf 9 120000 with heldHours := some 72 }, 32) := by decide +kernel

/-! ### The grace (chapter 4, worked walk 4.6) -/

/-- 4.6: which of the first seven records qualify for grace 7 with scope 48 at hour 120,000. -/
theorem test_grace_examination :
    [Kit.free, .enrolled (kitOf 1 119980), .enrolled (kitOf 1 120500),
      .enrolled { kitOf 1 120000 with heldHours := some 3 }, .enrolled (kitOf 1 119900),
      .enrolled { kitOf 1 119990 with mark := 7 }, .enrolled (kitOf 1 119995)].map (qualifies 120000 7 48) =
      [false, true, false, false, false, false, true] := by decide

/-- R60: GRACE answers with its number and the hour, and a second one is WALK BUSY. -/
theorem test_grace :
    (after (.grace 1 (be1 7 ++ be2 24 ++ be2 48)) (at' .onAir)).map lastReply = some [0x00, 0x07, 0x01, 0xD4, 0xC0] ∧
      (afterAll [.grace 1 (be1 7 ++ be2 24 ++ be2 48), .grace 2 (be1 8 ++ be2 24 ++ be2 48)] (at' .onAir)).map lastReply =
        some [0x0A, 0x07] := by decide +kernel

/-- The part of 4.6 with kit 0 lapsed 20 hours. -/
def walking : State :=
  { (at' .onAir).holding 0 (kitOf 1 119980) with
    walk := some { number := 7, hours := 24, scope := 48, next := 0, changed := 0, inHand := false, abort := false } }

/-- 4.6: the grace of a kit lapsed 20 hours: horizon 120,024, issue stepped, unlock set, mark 7, changed count 1. -/
theorem test_grace_reckoning :
    (afterAll [.graceExamine, .graceReckoning] walking).map (fun t => (t.kit 0, t.walk.map Walk.changed)) =
      some (.enrolled { kitOf 2 120024 with unlock := true, mark := 7 }, some 1) := by decide +kernel

/-- R67: GRACE ABORT with no record in hand ends the walk at once, with its notice. -/
theorem test_grace_abort :
    (after (.graceAbort 1 []) walking).map (fun t => (t.walk, t.link.notices.map Notice.kind)) =
      some (none, [.graceDone 7 0 0 true]) := by decide +kernel

/-! ### Delivery (chapter 5, worked selection 5.8) -/

/-- A kit of slot 57 with these sends, unlock and last sent. -/
def sentKit (answers : Bool) (sends : Nat) (unlock : Bool) (lastSent : Option Nat) : Kit :=
  .enrolled { enrolledRec 0 answers 57 120500 1 with sends := sends, unlock := unlock, lastSent := lastSent }

/-- 5.8: slot 57's pending list, the pointer at 13, the clock in slot 56 of cycle 5. -/
def slot57 : State :=
  let s := at' .onAir
  { s with
    roster := [(95, sentKit true 0 true none), (611, sentKit true 2 false (some 7199965)),
      (740, sentKit true 0 false (some 7199940)), (1480, sentKit false 0 false none),
      (2117, sentKit true 6 false (some 7199988)), (2805, sentKit true 0 true none),
      (3002, sentKit true 5 false (some 7199995)), (3960, sentKit true 1 false (some 7199965))]
    scheduler := { s.scheduler with lists := [(57, [3002, 611, 1480, 2117, 95, 3960, 740, 2805])], pointer := 13 } }

/-- 5.8: the pattern pass chooses these six in this order, and the pointer stands at 4. -/
theorem test_selection :
    (after .downlinkWindowEnd slot57).map (fun t =>
      (t.builder.preparing.map (fun b => b.entries.map Entry.kit), t.scheduler.pointer)) =
      some (some [2117, 95, 611, 2805, 1480, 3960], 4) := by decide +kernel

/-- 5.8: the counts at the start of slot 57, as sends, unlock and last sent; kit 611's issue has stepped meanwhile. -/
theorem test_counts :
    let stepped : Kit := .enrolled { enrolledRec 0 true 57 120600 2 with lastSent := some 7199965 }
    (afterAll [.downlinkWindowEnd, .preparationComplete] slot57).bind (fun t =>
      (afterAll [.replyWindowEnd, .slotStart] (t.putKit 611 stepped)).map (fun u =>
        ([2117, 95, 611, 2805, 1480, 3960].map u.kit, u.key, u.link.counters.staleEntries))) =
      some ([sentKit true 7 false (some 7200005), sentKit true 1 false (some 7200005), stepped,
        sentKit true 1 false (some 7200005), sentKit false 1 false (some 7200005), sentKit true 2 false (some 7200005)],
        true, 1) := by decide +kernel

/-- A SETTLED kit of slot 58 last sent at a cycle. -/
def settledKit (answers : Bool) (lastSent : Option Nat) : Kit :=
  .enrolled { enrolledRec 0 answers 58 120500 1 with confirmed := some 1, settled := true, lastSent := lastSent }

/-- 5.8, slot 58: the audit fill from pointer 2,000 takes these five, and the pointer becomes 603. -/
theorem test_audit_fill :
    let s : State := { at' .onAir with
      roster := [(118, settledKit true (some 7199990)), (150, settledKit true (some 7190000)),
        (602, settledKit true (some 7195000)), (2044, settledKit true (some 7198100)),
        (2301, settledKit true (some 7199500)), (2960, settledKit false (some 7199700)), (3501, settledKit true none),
        (4011, settledKit true (some 7197000))]
      scheduler := { State.reset.scheduler with auditPtrs := [(58, 2000)] } }
    s.auditFill 58 7200005 5 = ([2044, 3501, 4011, 150, 602], 603) := by decide +kernel

/-! ### Time (chapter 1) -/

/-- R3, R4: the last reply window of an hour, then the tick: hour 120,001, cycle 0, slot 0. -/
theorem test_hour_tick :
    let s : State := { at' .standby with clock := { (at' .standby).clock with slot := 119, cycle := 59 } }
    (afterAll [.replyWindowEnd, .hourTick] s).map (fun t => (t.clock.dh, t.clock.cycle, t.clock.slot)) =
      some (120001, 0, 0) := by decide +kernel

/-- R3: slot 119 steps to slot 0 with the next cycle. -/
theorem test_reply_window_end :
    (after .replyWindowEnd { at' .standby with clock := { (at' .standby).clock with slot := 119 } }).map
      (fun t => (t.clock.dh, t.clock.cycle, t.clock.slot)) = some (120000, 6, 0) := by decide +kernel

/-- R6: SET CLOCK in STANDBY, and 1.6, step 3: STATE while a roll is open. -/
theorem test_set_clock :
    (after (.setClock 1 (be3 120000 ++ be1 31)) (at' .standby)).map (fun t => (t.clock.cycle, t.clock.slot)) =
      some (31, 0) ∧
    (after (.setClock 1 (be3 120000 ++ be1 31)) { at' .standby with
      builder := { State.reset.builder with rolls := [{ id := 0, slot := 40, cycle := 1, hold := false, windowEnded := false
                                                        positions := [] }] } }).map lastReply = some [0x03, 0x01] := by
  decide +kernel

/-- R2: with the reference clock stopped a slot start is not given. -/
theorem test_reference_clock :
    (afterAll [.referenceClockStops, .replyWindowEnd] (at' .standby)).map (fun t => t.clock.slot) = some 56 ∧
      (afterAll [.referenceClockStops, .referenceClockReturns, .replyWindowEnd] (at' .standby)).map (fun t => t.clock.slot) =
        some 57 := by decide +kernel

/-! ### The uplink and receipts (chapter 7, worked window 7.8) -/

/-- The frame a kit of district 3,306 sends. -/
def frameOf (k : Nat) (issue : Issue) (status : Byte) : List Byte :=
  RadioKit.receipt { district := 3306, number := k, code := 0x11223344, answers := true, listen := 57, hour := 0
                     issue := issue, horizon := 0, held := false, status := status, usage := 77 }

/-- A roll of slot 57 with kits 95, 611 and 2,805 of 7.8 at positions 1 to 3, in its reply window. -/
def window57 : State :=
  let s := ((at' .onAir).holding 95 { kitOf 702 120500 with confirmed := some 701, notify := true, sends := 1 }).holding 611
    { kitOf 1151 120500 with confirmed := some 1149 } |>.holding 2805 { kitOf 18 120240 with tamper := 1, sends := 1 }
  { s with
    settings := { s.settings with tamperMark := 2, autoHold := true }
    builder := { s.builder with
      rolls := [{ id := 4, slot := 57, cycle := 7200005, hold := false, windowEnded := false
                  positions := [{ kit := 95, issue := 702, outcome := .pendingSend, sends := 1, answered := false },
                    { kit := 611, issue := 1150, outcome := .stale, sends := 0, answered := false },
                    { kit := 2805, issue := 18, outcome := .pendingSend, sends := 1, answered := false }] }]
      nextRoll := 5, slotRoll := some 4 }
    framer := { armed := none, fifo := []
                window := some { slot := 57, cycle := 7200005, roll := some 4, sub := 1, mode := .listening .searching } } }

/-- The bytes of a receipt, arriving in a sub-window, and the handling of its frame. -/
def heard (sub : Nat) (bs : List Byte) : List Instr :=
  .replySubWindowStart sub :: (([0x6B, 0x91] ++ bs).map .uplinkByteArrival) ++ [.receiptHandle]

/-- 7.8, position of kit 95: current; the kit settles and leaves the list, and DELIVERED "confirmed" is posted. -/
theorem test_receipt_current :
    (afterAll (heard 1 (frameOf 95 702 0)) window57).map (fun t =>
      ((t.kit 95).requiredSlots, t.list 57, t.link.notices.map Notice.kind, t.link.counters.confirmed)) =
      some ([], [611, 2805], [.delivered 702 true], 1) := by decide +kernel

/-- 7.8, kit 611: the stale order's issue reads behind by 1; confirmed 1,150, place kept. -/
theorem test_receipt_behind :
    (afterAll (heard 2 (frameOf 611 1150 0)) window57).map (fun t =>
      (match t.kit 611 with | .enrolled r => (r.confirmed, r.settled) | _ => (none, true), t.list 57, t.link.counters.behind)) =
      some ((some 1150, false), [95, 611, 2805], 1) := by decide +kernel

/-- 7.8 with auto-hold on: the open lid takes the run to the mark, the withdrawal is asked for and reckoned: 240 held
hours, issue 19, AUTO-HELD after TAMPER. -/
theorem test_receipt_tamper :
    (afterAll (heard 3 (frameOf 2805 18 0x40) ++ [.withdrawalOnTamper]) window57).map (fun t =>
      (match t.kit 2805 with | .enrolled r => (r.heldHours, r.issue, r.horizon) | _ => (none, 0, 0),
        t.link.notices.map (fun n => n.kind.parts.1), t.framer.fifo, t.handler)) =
      some ((some 240, 19, 120000), [4, 5], [], .idle) := by decide +kernel

/-- R117: a frame whose check fails is BAD CHECK and changes no record. -/
theorem test_receipt_bad_check :
    (afterAll (heard 1 (frameOf 95 703 0 |>.set 5 0xBE)) window57).map (fun t =>
      (t.kit 95, t.link.counters.badCheck, t.framer.fifo)) = some (window57.kit 95, 1, []) := by decide +kernel

/-- R109, R110: a byte error while TAKING, and a sub-window that closes while TAKING, each count one SHORT. -/
theorem test_short_frames :
    (afterAll [.uplinkByteArrival 0x6B, .uplinkByteArrival 0x91, .uplinkByteError, .replySubWindowStart 2,
      .uplinkByteArrival 0x6B, .uplinkByteArrival 0x91, .uplinkByteArrival 0x00, .replySubWindowStart 3] window57).map
      (fun t => t.link.counters.short) = some 2 := by decide +kernel

/-- R112: a frame completed with two in the FIFO is an overrun, and the framer drops the rest of the window. -/
theorem test_overrun :
    let f : Frame := { bytes := frameOf 95 702 0, slot := 57, cycle := 7200005, position := 1, roll := some 4 }
    let s : State := { window57 with framer := { window57.framer with
      fifo := [f, f], window := window57.framer.window.map fun w => { w with mode := .listening (.taking (List.replicate 10 0)) } } }
    (after (.uplinkFrameComplete 0) s).map (fun t => (t.framer.fifo.length, t.link.counters.overruns, t.framer.window.map Window.mode)) =
      some (2, 1, some .dropping) := by decide +kernel

/-- 8.5: the receipt of issue 43 from the ordered slot 90 completes the move of kit 1,207. -/
theorem test_move_completion :
    let s := (at' .onAir).holding 1207 { kitOf 43 120072 with
      ordered := 90, moveIssue := some 43, moveSent := true, confirmed := some 42, notify := true, sends := 2, missed := 1 }
    let s : State := { s with
      builder := { s.builder with
        rolls := [{ id := 0, slot := 90, cycle := 7200010, hold := false, windowEnded := false
                    positions := [{ kit := 1207, issue := 43, outcome := .pendingSend, sends := 2, answered := false }] }] }
      framer := { armed := none, window := none
                  fifo := [{ bytes := frameOf 1207 43 0, slot := 90, cycle := 7200010, position := 1, roll := some 0 }] } }
    (afterAll [.receiptHandle, .moveCompletion] s).map (fun t =>
      (match t.kit 1207 with | .enrolled r => (r.listen, r.moveIssue, r.settled, r.missed) | _ => (0, none, false, 9),
        t.list 57, t.list 90, t.link.notices.map Notice.kind)) =
      some ((90, none, true, 0), [], [], [.delivered 43 true, .moved 57 90 43]) := by decide +kernel

/-- R128, 7.8: the close of a roll charges an unanswered position: the missed run rises from 1 to 2. -/
theorem test_charge :
    let s := (at' .onAir).holding 3960 { kitOf 560 120500 with missed := 1, sends := 2 }
    (after .replyWindowEnd { s with
      builder := { s.builder with
        rolls := [{ id := 0, slot := 56, cycle := 7200005, hold := false, windowEnded := false
                    positions := [{ kit := 3960, issue := 560, outcome := .pendingSend, sends := 2, answered := false }] }] } }).map
      (fun t => (t.kit 3960, t.builder.rolls)) =
      some (.enrolled { kitOf 560 120500 with missed := 2, sends := 2 }, []) := by decide +kernel

/-! ### The record store (chapter 9) -/

/-- R147, R148: the write that starts at once for an enrolment stores its image at 64 + 19 × 2 and leaves the controller
idle. -/
theorem test_store_write :
    (afterAll [.enrol 1 (be2 2 ++ be4 0x11223344 ++ be1 1 ++ be1 57 ++ be3 120000 ++ be2 41), .storeAttemptComplete .good]
      (at' .onAir)).map (fun t => (readByte t.store.cells 102, readByte t.store.cells 103, t.store.mode)) =
      some (0x11, 0x11, .idle) := by decide +kernel

/-- R148, R151: the third failed attempt is a store fault; the reply is FAULTED and the record stays unsaved. -/
theorem test_store_fault :
    (afterAll [.enrol 1 (be2 2 ++ be4 0x11223344 ++ be1 1 ++ be1 57 ++ be3 120000 ++ be2 41),
      .storeAttemptComplete (.inError []), .storeMemoryTimeout [], .storeAttemptComplete (.readBack [])] (at' .onAir)).map
      (fun t => (t.link.op, lastReply t, t.link.counters.storeRetries, t.unsaved 2)) = some (.faulted, [0x0C], 2, true) := by decide +kernel

/-- R153, R182: a settings block in error gives the defaults and SETTINGS LOST with reason 2; then record 0 is read. -/
theorem test_settings_lost :
    (after (.settingsBlockRead .inError) State.reset).map (fun t => (t.link.notices.map Notice.kind, t.store.mode)) =
      some ([.settingsLost 2], .readingKit 0) := by decide +kernel

/-- R154: after record 4,095 the part is in STANDBY. -/
theorem test_load_ends :
    (after (.kitRecordRead .asStored) { State.reset with store := { State.reset.store with mode := .readingKit 4095 } }).map
      (fun t => (t.link.op, t.store.mode, t.kit 4095)) = some (.standby, .idle, .free) := by decide +kernel

/-- R150, R152: SAVE SETTINGS waits for the settings write, and is answered when it is verified. -/
theorem test_save_settings :
    (after (.saveSettings 1 []) (at' .standby)).map (fun t => t.link.replies.length) = some 0 ∧
      (after (.storeAttemptComplete .good) { at' .standby with
        store := { State.reset.store with mode := .saving (List.replicate 64 0x22) 1, owed := true }
        link := { (at' .standby).link with hand := some { newHand .saveSettings 1 [] with reckoned := true, settings := true } } }).map
        lastReply = some [0x00] := by decide +kernel

/-! ### The station link (chapter 10) -/

/-- R164, R177: IDENTIFY, but for the design level. -/
theorem test_identify :
    (after (.identify 1 []) (at' .standby)).map (fun t => (lastReply t).take 5 ++ (lastReply t).drop 6) =
      some [0x00, 0x7A, 0x31, 0x04, 0x60, 0x10, 0x00, 0x20, 0x20, 0x02, 0x00, 0x01] := by decide +kernel

/-- R165, R177: STATUS of the part at hour 120,000, cycle 5, slot 56 with one pending kit and no walk, but for the next
index, which is free then (assumption 40). -/
theorem test_status :
    (after (.status 1 []) enrolled1207).map (fun t => (lastReply t).take 16) =
      some [0x00, 0x02, 0x01, 0x01, 0xD4, 0xC0, 0x05, 0x38, 0x00, 0x01, 0x00, 0x00, 0x00, 0x00, 0x00, 0x00] := by
  decide +kernel

/-- R61, R165, R177: STATUS while walk 7 stands at index 258 ends with its number and its next index. -/
theorem test_status_walk :
    (after (.status 1 []) { at' .onAir with
        walk := some { number := 7, hours := 24, scope := 0, next := 258, changed := 0, inHand := false, abort := false } }).map
      (fun t => (lastReply t).drop 15) = some [0x07, 0x01, 0x02] := by decide +kernel

/-- R99, R156: both lines rest at the stop-bit level with nothing to send, and the burst's first sync byte 0x5A leaves as a
start bit, its bits least significant first, and a stop bit. -/
theorem test_lines :
    (List.range 20).all State.reset.downlinkLevel = true ∧ (List.range 20).all State.reset.linkLevel = true ∧
      (List.range 10).map (lineLevel [0x5A]) = [false, false, true, false, true, true, false, true, false, true] ∧
      lineLevel [0x5A] 10 = true := by decide

/-- R166: CONFIGURE with a packing of 7 (field 5) is answered RANGE with 5. -/
theorem test_configure_range :
    (after (.configure 1 (be2 1 ++ be2 8760 ++ be1 4 ++ be1 15 ++ be1 7 ++ be1 5 ++ be2 1440 ++ be1 3 ++ be1 2 ++ be1 24 ++
      be1 1)) (at' .standby)).map lastReply = some [0x06, 0x05] := by decide +kernel

/-- R167: LOAD PATTERN with a step byte of 0 at step 3 is answered RANGE with 3. -/
theorem test_load_pattern_range :
    (after (.loadPattern 1 ([1, 2, 3, 0] ++ List.replicate 12 1)) (at' .standby)).map lastReply = some [0x06, 0x03] := by
  decide +kernel

/-- R9, R10: START in STANDBY enters ON AIR, STOP leaves it. -/
theorem test_start_stop :
    (after (.start 1 []) (at' .standby)).map (fun t => t.link.op) = some .onAir ∧
      (after (.stop 1 []) (at' .onAir)).map (fun t => t.link.op) = some .standby := by decide +kernel

/-- R11, R12, R163: RESET in STANDBY with nothing to drain: CLOSING, then LOADING with the reply left to send. -/
theorem test_reset_command :
    (afterAll [.reset 1 [], .closingDrainComplete true] (at' .standby)).map
      (fun t => (t.link.op, t.link.replies.length, t.pins.fastLine, t.clock.isSet)) = some (.loading, 1, true, false) := by
  decide +kernel

/-- R11: RESET in FAULTED takes effect when its reply has been sent. -/
theorem test_reset_in_faulted :
    let s : State := { at' .faulted with store := { State.reset.store with mode := .stopped .settings } }
    (after (.reset 1 []) s).map (fun t => t.link.op) = some .faulted ∧
      (afterAll [.reset 1 [], .replySent false] s).map (fun t => t.link.op) = some .loading := by decide +kernel

/-- R160 to R162: a frame with a command in hand is BUSY, and a repeat is answered with the copied reply. -/
theorem test_busy_and_repeat :
    (afterAll [.grant 16 (be2 1207 ++ be2 72 ++ be1 1), .fetchNotices 17 []] enrolled1207).map lastReply = some [0x02] ∧
      (afterAll [.fetchNotices 17 [], .fetchNotices 17 []] (at' .onAir)).map (fun t => t.link.replies.map Reply.payload) =
        some [[0, 0, 0, 0], [0, 0, 0, 0]] := by decide +kernel

/-- R158, R159: a frame with a wrong check is rejected for CHECK. -/
theorem test_frame_rejected :
    (afterAll ([0xA7, 0x02, 0x02, 0x01, 0x00, 0x00].map .linkByteArrival) (at' .onAir)).map
      (fun t => (t.link.replies.map (fun r => (r.kind, r.tag, r.payload)), t.link.counters.linkRejects)) =
      some ([(0xFF, 0x00, [0x01])], 1) := by decide +kernel

/-- R158: a gap in a frame rejects it for GAP, and in WAITING nothing. -/
theorem test_link_gap :
    (afterAll [.linkByteArrival 0xA7, .linkGapExpiry, .linkGapExpiry] (at' .onAir)).map
      (fun t => t.link.replies.map Reply.payload) = some [[0x04]] := by decide +kernel

/-- R160, test 3: an unknown kind 0x7F is answered UNKNOWN with kind 0xFF. -/
theorem test_unknown_kind :
    (after (.unknownKindFrame 0x7F 5) (at' .onAir)).map (fun t => t.link.replies.map (fun r => (r.kind, r.tag, r.payload))) =
      some [(0xFF, 0x05, [0x0D])] := by decide +kernel

/-- R173: COUNTERS with the zero flag reports and zeroes. -/
theorem test_counters :
    let s : State := { at' .onAir with link := { (at' .onAir).link with counters := { Counters.zero with audits := 258 } } }
    (after (.counters 1 (be1 1)) s).map (fun t => ((lastReply t).drop 11 |>.take 2, t.link.counters)) =
      some ([0x01, 0x02], Counters.zero) := by decide +kernel

/-- R171: in pulse mode a FETCH NOTICES that leaves notices drops NOTE until the pulse ends. -/
theorem test_note_pulse :
    let s : State := { at' .onAir with
      settings := { (at' .onAir).settings with notePulse := true }
      link := { (at' .onAir).link with notices := List.replicate 9 { kind := .damaged, dh := 1, cycle := 2, kit := some 3 } } }
    (after (.fetchNotices 1 []) s).map State.note = some false ∧
      (afterAll [.fetchNotices 1 [], .notePulseEnd] s).map State.note = some true := by decide +kernel

/-- R100: a burst that completes deasserts KEY. -/
theorem test_burst_complete :
    (after .burstComplete { at' .onAir with builder := { State.reset.builder with
      onAir := some { slot := 56, cycle := 5, dh := 120000, targetCycle := 7200005, hold := false, district := 3306
                      entries := [], encoded := [] } } }).map State.key = some false := by decide +kernel

/-- R8, R149: a power loss during a write leaves each byte of the place old or new, here the first new and the rest old,
and the part is dead until power-up. -/
theorem test_power_loss :
    let s : State := { at' .onAir with store := { State.reset.store with mode := .writing 0 (List.replicate 19 0x22) 1 } }
    (after (.powerLoss 1) s).map (fun t => (readRun t.store.cells 64 3, t.live)) = some ([0x22, 0xFF, 0xFF], false) ∧
      (afterAll [.powerLoss 1, .powerUp true] s).map (fun t => (t.live, t.link.op)) = some (true, .loading) := by
  decide +kernel

/-- R8: the reset pin holds the part; its deassertion enters LOADING. -/
theorem test_reset_pin :
    (after (.resetPinAsserted 0) (at' .onAir)).map State.live = some false ∧
      (afterAll [.resetPinAsserted 0, .resetPinDeasserted true] (at' .onAir)).map (fun t => (t.live, t.link.op)) =
        some (true, .loading) := by decide +kernel

/-! ### Steps -/

/-- The front command is taken and the rest waits; the host's fetch word spells no command. -/
theorem test_step :
    (match step { at' .onAir with pending := [.burstComplete, .hourTick] } with | .next t => some t.pending | _ => none) =
      some [.hourTick] ∧ (at' .onAir).withFetchWord 8 1 = at' .onAir := by decide +kernel

end Sys2Proof.Tests
end

