-- ==== Sys2Proof/Tests/Witnesses.lean ====
section
/-! SUPPORT. For each statement with hypotheses, a concrete state and operands that meet all of them together, clause by
clause at the ends of their ranges. -/

namespace Sys2Proof.Tests

open Sys2Proof Sys2Proof.Machine

/-! ### States the witnesses share -/

/-- The part with this write in progress. -/
def busy (m : StoreMode) (op : OpState) : State := { at' op with store := { (at' op).store with mode := m } }

/-- The part with this clock setting. -/
def clockAt (dh cycle slot : Nat) (timer : SlotTimer) (due : Bool) : State :=
  { at' .onAir with
    clock := { isSet := true, dh := dh, cycle := cycle, slot := slot, endOfCount := false, timer := timer, tickDue := due } }

/-- A burst of slot 57 with these entries. -/
def burstOf (es : List Entry) : Burst where
  slot := 57
  cycle := 5
  dh := 120000
  targetCycle := 7200005
  hold := false
  district := 3306
  entries := es
  encoded := []

/-- An entry for a kit as `kitOf` has it. -/
def entryOf (k : Nat) (issue : Issue) (audit : Bool) : Entry where
  kit := k
  issue := issue
  horizon := 120500
  slot := 57
  held := false
  audit := audit
  code := 0x11223344

/-- A roll of slot 57 with kit 95 at position 1. -/
def rollOf95 (id : Nat) : Roll where
  id := id
  slot := 57
  cycle := 7200005
  hold := false
  windowEnded := false
  positions := [{ kit := 95, issue := 702, outcome := .pendingSend, sends := 1, answered := false }]

/-- The part ON AIR with this burst READY, its clock at the end of slot 56's reply window, and these rolls open. -/
def readyWith (es : List Entry) (rolls : List Roll) (s : State) : State :=
  { s with
    clock := { s.clock with slot := 57, timer := .boundary }
    builder := { s.builder with ready := some (burstOf es), rolls := rolls } }

/-- The part at the end of a reply window, with kit 95 as this record, roll 4 open and these frames in the FIFO. -/
def closing95 (r : KitRec) (fifo : List Frame) : State :=
  let s := (at' .onAir).holding 95 r
  { s with
    clock := { s.clock with slot := 57, timer := .reply 6 }
    builder := { s.builder with rolls := [rollOf95 4] }
    framer := { s.framer with fifo := fifo } }

/-- The part with this frame in the FIFO, and roll 4 with kit 95 open. -/
def frameWaits (f : Frame) (r : KitRec) (op : OpState) : State :=
  let s := (at' op).holding 95 r
  { s with
    settings := { s.settings with tamperMark := 2, autoHold := true }
    builder := { s.builder with rolls := [rollOf95 4] }
    framer := { s.framer with fifo := [f] } }

/-- The frame of kit 95 at position 1 of roll 4. -/
def frame95 (issue : Issue) (status : Byte) : Frame where
  bytes := frameOf 95 issue status
  slot := 57
  cycle := 7200005
  position := 1
  roll := some 4

/-- The part with the framer in this mode. -/
def framing (m : WindowMode) (fifo : List Frame) : State :=
  { at' .onAir with framer :=
      { armed := none, fifo := fifo
        window := some { slot := 57, cycle := 7200005, roll := some 4, sub := 2, mode := m } } }

theorem listsFollow_at (op : OpState) : (at' op).listsFollow := fun slot => by
  simp [State.list, at', State.reset, lookupAt, State.kit, Kit.requiredSlots]

/-! ### Steps, power, time -/

theorem witness_StepCarriesOutTheFront :
    ({ State.reset with pending := [.hourTick, .burstComplete] } : State).pending = .hourTick :: [.burstComplete] ∧
      State.reset.pending = [] := by decide

theorem witness_EntryToLoadingResetsEveryBlock :
    (let s : State := { at' .onAir with pins := { State.reset.pins with resetPin := true } }
     s.pins.power = true ∧ s.pins.resetPin = true) ∧
    (let s := at' .closing
     s.pins.power = true ∧ s.pins.resetPin = false ∧ s.link.op = .closing ∧ s.store.queue = [] ∧ s.store.mode = .idle ∧
       s.builder.onAir = none ∧ s.framer.window = none ∧ s.framer.fifo = [] ∧ s.builder.rolls = [] ∧ s.walk = none) ∧
    (let r : Reply := { replyTo .reset 1 .ok [] with entersLoading := true }
     let s : State := { at' .faulted with link := { (at' .faulted).link with replies := [r] } }
     s.pins.power = true ∧ s.pins.resetPin = false ∧ s.link.op = .faulted ∧ s.link.replies = r :: [] ∧
       r.entersLoading = true) := by decide

theorem witness_ResetPinAndPowerLossCutWhatIsInFlight :
    (let image := List.replicate 19 (0x22 : Byte)
     (busy (.writing 4095 image 3) .onAir).store.mode = .writing 4095 image 3 ∧ image.length = 19) ∧
    (let image := List.replicate 64 (0x22 : Byte)
     (busy (.saving image 1) .standby).store.mode = .saving image 1 ∧ image.length = 64) ∧
    ((∀ k image n, (at' .onAir).store.mode ≠ .writing k image n) ∧ ∀ image n, (at' .onAir).store.mode ≠ .saving image n) := by
  refine ⟨by decide, by decide, ?_, ?_⟩ <;> intros <;> exact StoreMode.noConfusion

theorem witness_StoppedReferenceHoldsEveryTiming :
    ({ at' .onAir with pins := { State.reset.pins with refStopped := true } } : State).pins.refStopped = true := rfl

/-- The clock at the ends of its ranges; and the roll of kit 95, alone and with a last missed reply to charge. -/
theorem witness_ReplyWindowEndAndHourTickMoveTheClock :
    (∀ s ∈ [clockAt 120000 5 118 (.reply 6) false, clockAt 120000 58 119 (.reply 6) false,
        clockAt 120000 59 119 (.reply 6) false, clockAt 120000 5 57 .early false],
      s.timed = true ∧ s.clock.tickDue = false) ∧
    (∀ missed ∈ [1, 2, 14, 15],
      let s := closing95 { kitOf 702 120500 with missed := missed, sends := 4 } []
      s.timed = true ∧ s.clock.timer ≠ .early ∧ s.builder.rolls = [rollOf95 4] ∧
        (∀ f ∈ s.framer.fifo, f.roll ≠ some (rollOf95 4).id) ∧ ((rollOf95 4).positions.map Position.kit).Nodup ∧
        s.link.notices.length + 2 ≤ 32 ∧ s.tablesCanonical = true) ∧
    (∀ dh ∈ [16777214, 16777215],
      let s := clockAt dh 59 119 .boundary true
      s.timed = true ∧ s.clock.tickDue = true ∧ s.clock.slot = 119 ∧ s.clock.cycle = 59) := by decide +kernel

/-- The missed run goes from 1 to 2 with nothing posted, and from 2 to 3, the mark, with SILENT. -/
theorem witness_ReplyWindowEnd_charges :
    (after .replyWindowEnd (closing95 { kitOf 702 120500 with missed := 1 } [])).map (fun t => t.link.notices.length) =
        some 0 ∧
      (after .replyWindowEnd (closing95 { kitOf 702 120500 with missed := 2 } [])).map
        (fun t => t.link.notices.map Notice.kind) = some [.silent 3 none] := by decide +kernel

theorem witness_SlotStartSendsTheReadyBurst :
    ∀ s ∈ [readyWith [] [] (at' .onAir), readyWith [entryOf 95 702 false] [rollOf95 1] (at' .onAir),
        readyWith [entryOf 95 702 false] [rollOf95 1, rollOf95 2] (at' .onAir)],
      s.timed = true ∧ s.link.op = .onAir ∧ s.builder.ready.map Burst.slot = some s.clock.atSlotStart.slot := by decide

/-- Kit 95 counts as a pending send, 96 is stale, 97 is SETTLED and audited, 98 is one-way at the end of its budget; with one
roll open, and with two, of which the older one closes. -/
theorem witness_SlotStartCountsEachEntry :
    let es := [entryOf 95 702 false, entryOf 96 5 false, entryOf 97 8 true, entryOf 98 9 false]
    let r95 := kitOf 702 120500
    let r97 := { kitOf 8 120500 with settled := true, confirmed := some 8 }
    let r98 := { kitOf 9 120500 with answers := false, sends := 3, notify := true }
    ∀ rolls ∈ [[rollOf95 1], [rollOf95 1, rollOf95 2]],
      let s := readyWith es rolls
        ((((at' .onAir).holding 95 r95).holding 96 (kitOf 6 120500)).holding 97 r97 |>.holding 98 r98)
      s.timed = true ∧ s.link.op = .onAir ∧ s.builder.ready = some (burstOf es) ∧
        (burstOf es).slot = s.clock.atSlotStart.slot ∧ s.builder.rolls.length ≤ 2 ∧
        ((burstOf es).entries.map Entry.kit).Nodup ∧ (∀ roll ∈ s.builder.rolls, (roll.positions.map Position.kit).Nodup) ∧
        s.kit 95 = .enrolled r95 ∧ s.kit 97 = .enrolled r97 ∧ s.kit 98 = .enrolled r98 ∧ s.settings.budget ≤ 4 ∧
        99 ∉ (burstOf es).entries.map Entry.kit ∧ (burstOf es).entries ≠ [] ∧ s.link.notices.length + 3 ≤ 32 ∧
        s.link.counters.audits ≤ 65535 ∧ s.tablesCanonical = true := by decide +kernel

/-- The last clause's invariant on the lists holds of such a part. -/
theorem witness_SlotStartCountsEachEntry_lists :
    (readyWith [entryOf 95 702 false] [rollOf95 1] ((at' .onAir).holding 95 (kitOf 702 120500))).listsFollow :=
  Laws.listsFollow_putKit (by decide +kernel) (listsFollow_at .onAir) 95 _

/-- The part in this state at the end of slot 56's reply window, with these buffers and the uplink option as said. -/
def slotStarts (op : OpState) (uplink : Bool) (ready preparing : Option Burst) : State :=
  { at' op with
    clock := { (at' op).clock with slot := 57, timer := .boundary }
    settings := { (at' op).settings with uplink := uplink }
    builder := { State.reset.builder with ready := ready, preparing := preparing } }

/-- A preparation for the new slot and for another, none at all, and a READY burst of another slot or with the part not ON
AIR; and a slot start that comes before the reply window end. -/
theorem witness_SlotStartMissesAnUnfinishedPreparation :
    (∀ s ∈ [slotStarts .onAir true none (some (burstOf [])), slotStarts .onAir false none none,
        slotStarts .onAir true none (some { burstOf [] with slot := 58 }),
        slotStarts .standby true (some (burstOf [])) none, slotStarts .onAir true (some { burstOf [] with slot := 58 }) none],
      s.timed = true ∧ (∀ b ∈ s.builder.ready, s.link.op ≠ .onAir ∨ b.slot ≠ s.clock.atSlotStart.slot) ∧
        s.clock.timer = .boundary ∧ s.clock.tickDue = false) ∧
    (burstOf []).slot = (slotStarts .onAir true none none).clock.atSlotStart.slot ∧
    (at' .onAir).timed = true ∧ (at' .onAir).builder.ready = none ∧ (at' .onAir).clock.timer ≠ .boundary := by decide +kernel

/-- The reply window is to be searched with no burst and after a missed slot, and not with the uplink option off or in
STANDBY. -/
theorem witness_SlotStart_setsTheFramer :
    [slotStarts .onAir true none none, slotStarts .onAir true none (some (burstOf [])), slotStarts .onAir false none none,
        slotStarts .standby true (some (burstOf [])) none].map
      (fun s => (after .slotStart s).map fun t => (t.framer.armed.map Prod.fst, t.link.counters.missedSlots)) =
      [some (some 57, 0), some (some 57, 1), some (none, 0), some (none, 0)] := by decide +kernel

/-- In this state the lists follow the records and the pattern is whole, with kit 95 waiting in slot 57. -/
theorem selection_invariants (op : OpState) :
    let s := (at' op).holding 95 (kitOf 702 120500)
    s.tablesCanonical = true ∧ s.listsFollow ∧ s.scheduler.patternWhole = true :=
  ⟨by cases op <;> decide +kernel, Laws.listsFollow_putKit (by cases op <;> decide +kernel) (listsFollow_at op) 95 _,
    by cases op <;> decide⟩

/-- The first clause; and the part in STANDBY, the next slot prepared for by START, and each buffer taken. -/
theorem witness_DownlinkWindowEndPreparesTheNextSlot :
    (let s := (at' .onAir).holding 95 (kitOf 702 120500)
     s.timed = true ∧ s.link.op = .onAir ∧ s.builder.preparing = none ∧ s.builder.ready = none ∧
       s.scheduler.preparedFor ≠ some s.clock.advance.slot ∧ s.tablesCanonical = true ∧ s.listsFollow ∧
       s.scheduler.patternWhole = true) ∧
    (at' .standby).timed = true ∧ (at' .standby).link.op ≠ .onAir ∧
    (let s : State := { at' .onAir with scheduler := { State.reset.scheduler with preparedFor := some 57 } }
     s.timed = true ∧ s.scheduler.preparedFor = some s.clock.advance.slot) ∧
    (slotStarts .onAir true none (some (burstOf []))).builder.preparing ≠ none ∧
    (slotStarts .onAir true (some (burstOf [])) none).builder.ready ≠ none :=
  ⟨⟨by decide, by decide, by decide, by decide, by decide, selection_invariants .onAir⟩, by decide⟩

/-- With no kit the slot has no burst at idle counter 0 and a header-only one at 5; and kit 95 is chosen at the first step. -/
theorem witness_DownlinkWindowEndPreparesTheNextSlot_outcomes :
    (after .downlinkWindowEnd (at' .onAir)).map (fun t => t.builder.preparing.isSome) = some false ∧
      (after .downlinkWindowEnd { at' .onAir with scheduler := { State.reset.scheduler with idle := [(57, 5)] } }).map
        (fun t => t.builder.preparing.map (fun b => b.entries.length)) = some (some 0) ∧
      (after .downlinkWindowEnd ((at' .onAir).holding 95 (kitOf 702 120500))).map
        (fun t => t.builder.preparing.map (fun b => b.entries.map Entry.kit)) = some (some [95]) := by decide +kernel

theorem witness_SubWindowStartSearchesAnew : (framing (.listening (.taking [1])) []).timed = true := by decide

theorem witness_BurstBuffersCompleteAndEmpty :
    (let s : State := { at' .onAir with builder := { State.reset.builder with preparing := some (burstOf []) } }
     s.live = true ∧ s.builder.preparing = some (burstOf [])) ∧ (at' .onAir).clocked = true ∧
    (let s : State := { at' .onAir with
        builder := { State.reset.builder with onAir := some { burstOf [] with encoded := [0x5A, 0xC6] } } }
     s.builder.onAir = some { burstOf [] with encoded := [0x5A, 0xC6] }) ∧ State.reset.builder.onAir = none := by decide

/-! ### The uplink -/

theorem witness_UplinkBytesFollowTheSubWindowStates :
    (∀ st ∈ [SubState.searching, .syncSeen, .taking [], .taking (List.replicate 9 0), .done],
      let s := framing (.listening st) []
      s.clocked = true ∧ s.framer.window.map Window.mode = some (.listening st)) ∧
    (∀ w st, (framing .dropping []).framer.window = some w → w.mode ≠ .listening st) := by
  refine ⟨by decide, fun w st h => ?_⟩
  simp only [framing, Option.some.injEq] at h
  subst h
  exact WindowMode.noConfusion

theorem witness_CompleteFrameJoinsTheFifoOrOverruns :
    ∀ fifo ∈ [[frame95 702 0], [frame95 702 0, frame95 702 0]],
      let bs := List.replicate 10 (0 : Byte)
      let s := framing (.listening (.taking bs)) fifo
      s.clocked = true ∧ s.framer.window.map Window.mode = some (.listening (.taking bs)) ∧ bs.length = 10 ∧
        s.framer.fifo = fifo := by decide +kernel

/-- A kit at the ends of its fields. -/
def aKit (issue : Issue) : RadioKit where
  district := 65535
  number := 4095
  code := 0x11223344
  answers := true
  listen := 57
  hour := 0
  issue := issue
  horizon := 0
  held := false
  status := 0xC7
  usage := 65535

theorem witness_KitReplyBecomesOneGoodFrame :
    let s := framing (.listening .searching) [frame95 702 0]
    s.clocked = true ∧ s.framer.window.map Window.mode = some (.listening .searching) ∧ s.framer.fifo.length < 2 ∧
      (aKit 1).district ≤ 65535 ∧ (aKit 1).number ≤ 65535 ∧ (aKit 1).usage ≤ 65535 := by decide +kernel

/-- The kit of the entry at position 6 holds the issue before it, or the entry's own. -/
theorem witness_KitAdoptsTheNewerOrderOfItsEntry :
    let e := { entryOf 4095 0 false with horizon := 16777215, slot := 119 }
    let before := [entryOf 1 1 false, entryOf 2 1 false, entryOf 3 1 false, entryOf 4 1 false, entryOf 5 1 false]
    let b := { burstOf (before ++ [e]) with district := 65535, dh := 16777215 }
    b.entries = before ++ e :: [] ∧ b.entries.length ≤ 6 ∧ b.district = (aKit 65535).district ∧
      (aKit 65535).district ≤ 65535 ∧ b.dh ≤ 16777215 ∧ e.kit = (aKit 65535).number ∧ (aKit 65535).number ≤ 4095 ∧
      e.code = (aKit 65535).code ∧ e.horizon ≤ 16777215 ∧ e.slot ≤ 119 ∧
      (∀ e' ∈ before, e'.kit ≠ (aKit 65535).number ∧ e'.kit ≤ 4095) ∧
      newerThan e.issue (aKit 65535).issue = true ∧ newerThan e.issue (aKit 0).issue = false := by decide

/-! ### Receipts -/

/-- A frame of no roll, one of another district, strays of position, kit and record, and one whose check fails. -/
theorem witness_RefusedFrameChangesNoRecord :
    (∀ f ∈ [{ frame95 702 0 with roll := none }, { frame95 702 0 with bytes := (frameOf 95 702 0).set 0 0x11 },
        { frame95 702 0 with position := 0 }, { frame95 702 0 with position := 2 },
        { frame95 702 0 with bytes := frameOf 96 702 0 }, { frame95 702 0 with bytes := (frameOf 95 702 0).set 8 0xEE }],
      let s := frameWaits f (kitOf 702 120500) .onAir
      s.live = true ∧ s.link.op ≠ .loading ∧ s.handler = .idle ∧ s.framer.fifo = f :: [] ∧
        ∀ r ∈ s.builder.rolls, r.windowEnded = false) ∧
    (let f := { frame95 702 0 with bytes := (frameOf 95 702 0).set 8 0xEE }
     let s := frameWaits f (kitOf 702 120500) .onAir
     s.builder.rolls.find? (fun r => f.roll = some r.id) = some (rollOf95 4) ∧
       receiptDistrict f.bytes = s.settings.district ∧ receiptKit f.bytes = 95 ∧
       s.kit 95 = .enrolled (kitOf 702 120500) ∧ receiptGood (kitOf 702 120500).code f.bytes = false) := by decide +kernel

/-- The hypotheses of AcceptedReceiptIsReadByItsDistance, on the frame of kit 95 with this held issue and its record with
this issue. -/
abbrev acceptedAt (held issue : Issue) : Prop :=
  let r := kitOf issue 120500
  let f := frame95 held 0x40
  let s := frameWaits f r .onAir
  s.live = true ∧ s.link.op ≠ .loading ∧ s.handler = .idle ∧ s.framer.fifo = f :: [] ∧
    s.builder.rolls.find? (fun q => f.roll = some q.id) = some (rollOf95 4) ∧
    receiptDistrict f.bytes = s.settings.district ∧ 1 ≤ f.position ∧
    (rollOf95 4).positions[f.position - 1]?.map Position.kit = some (receiptKit f.bytes) ∧
    s.kit (receiptKit f.bytes) = .enrolled r ∧ receiptGood r.code f.bytes = true ∧ s.tablesCanonical = true

/-- Distances 0, 1, 32,767, 32,768 and 65,535 from the held issue forward to the current one. -/
theorem witness_AcceptedReceiptIsReadByItsDistance : acceptedAt 702 702 := by decide +kernel
theorem witness_AcceptedReceiptIsReadByItsDistance_1 : acceptedAt 701 702 := by decide +kernel
theorem witness_AcceptedReceiptIsReadByItsDistance_32767 : acceptedAt 1 32768 := by decide +kernel
theorem witness_AcceptedReceiptIsReadByItsDistance_32768 : acceptedAt 0 32768 := by decide +kernel
theorem witness_AcceptedReceiptIsReadByItsDistance_65535 : acceptedAt 703 702 := by decide +kernel

/-- A receipt that asks for nothing, for a completion, for a withdrawal, for both, and for nothing in FAULTED. -/
theorem witness_AcceptedReceiptPostsAndAsks :
    let moving : KitRec := { kitOf 702 120500 with ordered := 57, listen := 20, moveIssue := some 702, tamper := 1 }
    let still : KitRec := { kitOf 702 120500 with tamper := 1 }
    ∀ c ∈ [(still, (0x00 : Byte), OpState.onAir), (moving, 0x00, .onAir), (still, 0x40, .standby), (moving, 0x40, .onAir),
        (moving, 0x40, .faulted)],
      let f := frame95 702 c.2.1
      let s := frameWaits f c.1 c.2.2
      s.live = true ∧ s.link.op ≠ .loading ∧ s.handler = .idle ∧ s.framer.fifo = f :: [] ∧
        s.builder.rolls.find? (fun q => f.roll = some q.id) = some (rollOf95 4) ∧
        receiptDistrict f.bytes = s.settings.district ∧ 1 ≤ f.position ∧
        (rollOf95 4).positions[f.position - 1]?.map Position.kit = some (receiptKit f.bytes) ∧
        s.kit (receiptKit f.bytes) = .enrolled c.1 ∧ receiptGood c.1.code f.bytes = true ∧
        s.link.notices.length + 2 ≤ 32 := by decide +kernel

/-- A move that completes, with no request after it and with a withdrawal; and one that is no longer pending. -/
theorem witness_MoveCompletionMovesTheListenSlot :
    let moving : KitRec := { kitOf 43 120072 with ordered := 90, moveIssue := some 43, moveSent := true }
    (∀ second ∈ [none, some (.tamperHold 1207)], ∀ r ∈ [moving, kitOf 43 120072],
      let s : State := { (at' .onAir).holding 1207 r with handler := .stalled (.completeMove 1207) second }
      s.live = true ∧ s.handler = .stalled (.completeMove 1207) second ∧ s.canAccept 1207 = true ∧
        s.wants .link = none ∧ s.wants .walker = none ∧ (s.store.mode ≠ .idle ∨ s.store.queue = []) ∧
        s.kit 1207 = .enrolled r ∧ s.link.notices.length < 32 ∧ s.tablesCanonical = true) ∧
      moving.moveIssue = some 43 ∧ (kitOf 43 120072).moveIssue = none := by decide +kernel

/-- The kit is ACTIVE, or HELD meanwhile; the frame has no request after this one, or another. -/
theorem witness_TamperWithdrawalHoldsTheKit :
    ∀ second ∈ [none, some (.completeMove 2805)],
    ∀ r ∈ [kitOf 18 120240, { kitOf 18 120240 with heldHours := some 3 }],
      let s : State := { (at' .onAir).holding 2805 r with handler := .stalled (.tamperHold 2805) second }
      s.live = true ∧ s.handler = .stalled (.tamperHold 2805) second ∧ s.canAccept 2805 = true ∧ s.wants .link = none ∧
        s.wants .walker = none ∧ (s.store.mode ≠ .idle ∨ s.store.queue = []) ∧ s.link.notices.length < 32 ∧
        s.kit 2805 = .enrolled r := by decide +kernel

/-! ### The grace walk -/

/-- The part with a walk at an index. -/
def walkAt (next : Nat) (inHand : Bool) (scope : Nat) : Walk where
  number := 7
  hours := 24
  scope := scope
  next := next
  changed := 0
  inHand := inHand
  abort := false

theorem witness_GraceExaminePassesOverOrTakesInHand :
    ∀ n ∈ [0, 4094, 4095],
      let s : State := { (at' .onAir).holding 0 (kitOf 1 119952) with walk := some (walkAt n false 48) }
      s.live = true ∧ s.walk = some (walkAt n false 48) ∧ (walkAt n false 48).inHand = false ∧
        (walkAt n false 48).abort = false ∧ (walkAt n false 48).next ≤ 4095 ∧
        (s.kit n = .enrolled (kitOf 1 119952) ↔ n = 0) := by decide +kernel

/-- A kit that takes all hours, one at the ceiling that takes none, and one marked meanwhile; in the middle of a walk, at its
end and with the abort flag set; and a full queue. -/
theorem witness_GraceReckoningMarksAndGrants :
    (∀ r ∈ [kitOf 1 119980, kitOf 1 128760, { kitOf 1 119980 with mark := 7 }],
      ∀ w ∈ [walkAt 4094 true 0, walkAt 4095 true 0, { walkAt 4094 true 0 with abort := true }],
        let s : State := { (at' .onAir).holding w.next r with walk := some w }
        s.live = true ∧ s.walk = some w ∧ w.inHand = true ∧ s.canAccept w.next = true ∧ s.wants .link = none ∧
          s.wants .handler = none ∧ s.kit w.next = .enrolled r ∧ r.heldHours = none ∧ w.scope = 0 ∧
          (r.mark = w.number ↔ r.mark = 7) ∧ s.store.queue = [] ∧ s.store.owed = false) ∧
    (let s : State := { at' .onAir with
        walk := some (walkAt 4094 true 0), store := { State.reset.store with queue := List.range 32 } }
     s.live = true ∧ s.canAccept 4094 = false) := by decide +kernel

theorem witness_GraceAndGraceAbortAnswerAtOnce :
    (∀ p ∈ [be1 0 ++ be2 24 ++ be2 0, be1 1 ++ be2 720 ++ be2 720, be1 255 ++ be2 721 ++ be2 0],
      (at' .onAir).ready .grace 1 p = true) ∧
    ({ at' .onAir with walk := some (walkAt 5 true 0) } : State).ready .grace 1 (be1 1 ++ be2 1 ++ be2 0) = true ∧
    (∀ w ∈ [none, some (walkAt 5 true 0), some (walkAt 5 false 0)],
      ({ at' .standby with walk := w } : State).ready .graceAbort 1 [] = true) := by decide +kernel

/-! ### The record store -/

theorem witness_VerifiedWriteLeavesTheImageInTheMemory :
    let image := List.replicate 19 (0x22 : Byte)
    let s := busy (.writing 4095 image 1) .onAir
    let u : State := { s with store := { s.store with owed := true, queue := [7] } }
    s.live = true ∧ s.store.mode = .writing 4095 image 1 ∧ image.length = 19 ∧ s.store.owed = false ∧
      s.store.queue = [] ∧ u.live = true ∧ u.store.mode = .writing 4095 image 1 ∧ u.store.owed = true := by decide

/-- A part whose record write of kit 4,095 ends, with this queue, rotation pointer, command in hand and walk. -/
def writeEnds (queue : List Nat) (rotation : Requester) (hand : Option Hand) (walk : Option Walk) : State :=
  let s := (at' .onAir).holding 40 (kitOf 5 120500)
  { s with
    walk := walk
    store := { s.store with queue := queue, rotation := rotation, mode := .writing 4095 (List.replicate 19 0x22) 1 }
    link := { s.link with hand := hand } }

/-- The queue with 31 indices behind its head and with 30, and no requester waiting. -/
theorem witness_VerifiedWrite_nobodyWaits :
    ∀ n ∈ [30, 31],
      let s := writeEnds (50 :: List.range' 51 n) .link none none
      s.live = true ∧ s.store.mode = .writing 4095 (List.replicate 19 0x22) 1 ∧ s.store.owed = false ∧
        s.store.queue = 50 :: List.range' 51 n ∧ (List.range' 51 n).length = n ∧ ∀ q, s.wants q = none := by
  intro n h
  refine ⟨rfl, rfl, rfl, rfl, List.length_range', fun q => ?_⟩
  cases q <;> rfl

/-- Each of the two that wait is the first from one place of the circle; the command's withdrawal of kit 40 makes a record,
and the walk's grace of kit 41, which is FREE, makes none. -/
theorem witness_VerifiedWrite_roomGoesRound :
    let h := newHand .withdraw 1 (be2 40 ++ be1 0)
    let s (r : Requester) := writeEnds (50 :: List.range' 51 31) r (some h) (some (walkAt 41 true 0))
    (∀ r, (s r).firstFrom (s r).store.rotation = some (if r = .walker then .walker else .link)) ∧
      ((s .link).wants .link = some 40 ∧ (s .link).wants .walker = some 41 ∧ (s .link).wants .handler = none) ∧
      ((s .link).requestMakes .link).isSome = true ∧ (s .link).requestMakes .walker = none ∧
      40 ∉ List.range' 51 31 ∧ 41 ∉ List.range' 51 31 ∧ (List.range' 51 31).length = 31 ∧
      (s .link).handler = .idle := by
  refine ⟨fun r => ?_, by decide +kernel, by decide +kernel, by decide +kernel, by decide, by decide, by decide, rfl⟩
  cases r <;> decide +kernel

/-- The walk alone, whose request makes no record. -/
theorem witness_VerifiedWrite_passesOver :
    let s := writeEnds (50 :: List.range' 51 31) .link none (some (walkAt 41 true 0))
    s.firstFrom s.store.rotation = some .walker ∧ s.requestMakes .walker = none ∧ s.wants .link = none ∧
      s.wants .handler = none := by decide +kernel

/-- The second and the third failure of both writes, with a command in hand and without one, and with a walk. -/
theorem witness_ThirdFailedAttemptFaultsThePart :
    (let image := List.replicate 19 (0x22 : Byte)
     let bs := List.replicate 19 (0x23 : Byte)
     (∀ n ∈ [2, 3], (busy (.writing 5 image n) .onAir).clocked = true ∧
       (busy (.writing 5 image n) .onAir).store.mode = .writing 5 image n) ∧ bs.length = 19 ∧ bs ≠ image ∧
       (busy (.writing 5 image 3) .onAir).link.hand = none ∧ (busy (.writing 5 image 3) .onAir).walk = none ∧
       (busy (.writing 5 image 3) .onAir).link.notices.length < 31) ∧
    (let image := List.replicate 64 (0x22 : Byte)
     let bs := List.replicate 64 (0x23 : Byte)
     let h := { newHand .saveSettings 1 [] with reckoned := true, settings := true }
     ∀ n ∈ [2, 3],
       let s : State := { busy (.saving image n) .onAir with
         walk := some (walkAt 4095 true 0), link := { (at' .onAir).link with hand := some h } }
       s.clocked = true ∧ s.store.mode = .saving image n ∧ bs.length = 64 ∧ bs ≠ image ∧
         s.walk = some (walkAt 4095 true 0) ∧ s.link.hand = some h ∧ s.link.notices.length < 31) := by decide

/-- The write of kit 5 is the last the reply waits for, or one of two; and the settings write of SAVE SETTINGS. -/
theorem witness_DurableReplyFollowsTheVerifiedWrite :
    (∀ aw ∈ [[(5, true)], [(5, true), (6, false)]],
      let image := List.replicate 19 (0x22 : Byte)
      let h := { newHand .enrolBlock 1 [] with reckoned := true, awaits := aw }
      let s : State := { busy (.writing 5 image 1) .onAir with link := { (at' .onAir).link with hand := some h } }
      s.live = true ∧ s.store.mode = .writing 5 image 1 ∧ image.length = 19 ∧ s.link.hand = some h ∧ h.reckoned = true ∧
        h.settings = false) ∧
    (let image := List.replicate 64 (0x22 : Byte)
     let h := { newHand .saveSettings 1 [] with reckoned := true, settings := true }
     let s : State := { busy (.saving image 1) .standby with link := { (at' .standby).link with hand := some h } }
     s.live = true ∧ s.store.mode = .saving image 1 ∧ image.length = 64 ∧ s.link.hand = some h ∧ h.reckoned = true ∧
       h.settings = true ∧ h.awaits = [] ∧ h.kind ≠ .enrolBlock) := by decide

/-- A block closed by its own check passes it. -/
theorem goodBlock (body : List Byte) (h : body.length = 62) :
    crcBytes ((body ++ crcBytes body).take 62) = (body ++ crcBytes body).drop 62 := by
  rw [List.take_left' h, List.drop_left' h]

/-- The settings block at the start of the load. -/
theorem witness_SettingsBlockReadSetsTheSettings :
    State.reset.clocked = true ∧ State.reset.store.mode = .readingSettings ∧ (List.replicate 64 (0 : Byte)).length = 64 := by
  decide

/-- A block of zeros closed by its check passes the check with values out of range, and the block of the default settings
and pattern is sound. -/
theorem witness_SettingsBlockReadSetsTheSettings_checked :
    let zeros := List.replicate 62 (0 : Byte)
    let sound := settingsBody .default defaultPattern
    let b := zeros ++ crcBytes zeros
    let b' := sound ++ crcBytes sound
    crcBytes (b.take 62) = b.drop 62 ∧ ¬ (∀ st ∈ (b.drop 14).take 16, (stepOfByte st).isSome = true) ∧
      crcBytes (b'.take 62) = b'.drop 62 ∧ (fieldsInRange (settingsOfBytes b') (field b' 13 1)).all id = true ∧
      ∀ st ∈ (b'.drop 14).take 16, (stepOfByte st).isSome = true :=
  ⟨goodBlock _ (by decide), by decide +kernel, goodBlock _ (by decide), by decide +kernel, by decide +kernel⟩

theorem witness_KitRecordReadSetsTheRecord :
    (∀ k ∈ [0, 4094, 4095],
      let s : State := { State.reset with store := { State.reset.store with mode := .readingKit k } }
      s.clocked = true ∧ s.store.mode = .readingKit k ∧ s.tablesCanonical = true) ∧
    (let b := recordImage 7 (.enrolled (kitOf 43 120072))
     b.length = 19 ∧ ¬ ((∀ x ∈ b, x = 0x00) ∨ (∀ x ∈ b, x = 0xFF)) ∧ crcBytes (be2 7 ++ b.take 17) = b.drop 17 ∧
       crcBytes (be2 8 ++ b.take 17) ≠ b.drop 17 ∧ storedValid b = true) := by decide +kernel

theorem witness_RecordImageLoadsBack :
    ({ kitOf 65535 16777215 with
        listen := 0, ordered := 119, moveIssue := some 65535, heldHours := some 17520, mark := 255 } : KitRec).valid = true := by
  decide

theorem witness_SettingsImageLoadsBack :
    ({ Settings.default with district := 65535, advance := 17520, holdMark := 32 } : Settings).inRange = true ∧
      defaultPattern.length = 16 := by decide

/-! ### The station link -/

theorem witness_LineEventsLeaveTheCommandInHand :
    (at' .onAir).live = true ∧ (at' .onAir).clocked = true ∧ (at' .onAir).link.receiver = .waiting ∧
      (at' .onAir).link.replies = [] ∧
      (let s : State := { at' .onAir with link := { (at' .onAir).link with receiver := .length } }
       s.clocked = true ∧ s.link.receiver ≠ .waiting) ∧
      (let r : Reply := replyTo .status 1 .ok []
       let s : State := { at' .onAir with link := { (at' .onAir).link with replies := [r] } }
       s.live = true ∧ s.link.replies = r :: [] ∧ ¬ (r.entersLoading = true ∧ s.link.op = .faulted)) := by decide

theorem witness_LinkBytesMoveTheFrameReceiver :
    (∀ r ∈ [Receiver.waiting, .length, .body 2 [], .body 2 [1], .check 2 [1, 2] none, .check 2 [1, 2] (some 3)],
      let s : State := { at' .onAir with link := { (at' .onAir).link with receiver := r } }
      s.live = true ∧ s.link.receiver = r) ∧ (2 : Byte).toNat = 2 ∧ (1 : Byte).toNat < 2 ∧
      crcBytes (be1 2 ++ [1, 2]) ≠ [3, 0] := by decide +kernel

theorem witness_FrameBytesAreTheCommand :
    (at' .onAir).live = true ∧ (at' .onAir).link.receiver = .waiting ∧ (List.replicate 253 (0 : Byte)).length ≤ 253 := by
  decide +kernel

/-- A command in hand, a repeat, a wrong length, and eight replies waiting. -/
theorem witness_FramesNotTakenChangeOnlyTheLink :
    (let s : State := { at' .onAir with link := { (at' .onAir).link with hand := some (newHand .grant 1 []) } }
     s.live = true ∧ s.link.hand.isSome = true) ∧
    (let c : Copy := { kind := .status, tag := 1, payload := [], reply := replyTo .status 1 .ok [] }
     let s : State := { at' .onAir with link := { (at' .onAir).link with copy := some c } }
     s.live = true ∧ s.link.hand = none ∧ s.link.copy = some c) ∧
    ((at' .onAir).link.copy = none ∧ [(1 : Byte)].length ≠ requiredLength .status [1]) ∧
    (let s : State := { at' .onAir with
        link := { (at' .onAir).link with replies := List.replicate 8 (replyTo .status 1 .ok []) } }
     s.link.hand = none ∧ ([] : List Byte).length = requiredLength .status [] ∧ 8 ≤ s.link.replies.length) := by decide

/-- GRANT in FAULTED, and with the clock unset. -/
theorem witness_StateAndClockGateTheCommands :
    (let p := be2 5 ++ be2 72 ++ be1 0
     let s := at' .faulted
     s.live = true ∧ s.link.hand = none ∧ s.repeatOf .grant 1 p = none ∧ p.length = requiredLength .grant p ∧
       s.link.replies.length < 8 ∧ admits .grant s.link.op = false) ∧
    (let p := be2 5 ++ be2 72 ++ be1 0
     let s : State := { at' .standby with clock := .unset }
     s.live = true ∧ s.link.hand = none ∧ s.repeatOf .grant 1 p = none ∧ p.length = requiredLength .grant p ∧
       s.link.replies.length < 8 ∧ admits .grant s.link.op = true ∧ gated .grant = true ∧ s.clock.isSet = false) := by
  decide +kernel

/-- The reports are taken in every operating state. -/
theorem witness_IdentifyReportsThePart :
    ∀ op ∈ [OpState.loading, .standby, .onAir, .closing, .faulted], (at' op).ready .identify 1 [] = true := by decide

/-- STATUS with a walk and without; READ KIT of a FREE, a DAMAGED and an enrolled kit, and of 4,096. -/
theorem witness_StatusAndReadKitChangeNothing :
    (∀ op ∈ [OpState.loading, .faulted], ∀ w ∈ [none, some (walkAt 4095 true 0)],
      ({ at' op with walk := w } : State).ready .status 1 [] = true) ∧
      (∀ k ∈ [0, 4095, 4096], (at' .onAir).ready .readKit 1 (be2 k) = true ∧ (at' .onAir).kit k = .free) ∧
      (let s := (at' .onAir).putKit 4095 .damaged
       s.ready .readKit 1 (be2 4095) = true ∧ s.kit 4095 = .damaged) ∧
      (let r := { kitOf 5 120500 with heldHours := some 3, lastStatus := some (KitStatus.ofByte 0xC7) }
       let s := (at' .onAir).holding 4095 r
       s.ready .readKit 1 (be2 4095) = true ∧ field (be2 4095) 0 2 ≤ 4095 ∧ s.kit 4095 = .enrolled r) :=
  ⟨by decide, by decide +kernel, by decide +kernel, by decide +kernel, by decide +kernel, rfl⟩

theorem witness_FetchNoticesAndCountersReportAndClear :
    (at' .onAir).ready .fetchNotices 1 [] = true ∧ (∀ z ∈ [0, 1, 255], (at' .onAir).ready .counters 1 (be1 z) = true) := by
  decide +kernel

/-- The payload of the default settings with this packing. -/
def configured (packing : Nat) : List Byte := ({ Settings.default with district := 1, packing := packing } : Settings).bytes

theorem witness_ConfigureAndLoadPatternReplaceTheWhole :
    (∀ n ∈ [1, 6, 7], (at' .standby).ready .configure 1 (configured n) = true) ∧
      (fieldsInRange (settingsOfBytes (configured 7)) (field (configured 7) 13 1))[3]? = some false ∧
      (∀ p ∈ [List.replicate 16 (1 : Byte), List.replicate 15 1 ++ [5]], (at' .onAir).ready .loadPattern 1 p = true) ∧
      stepOfByte 5 = none := by decide +kernel

theorem witness_SaveSettingsOwesTheSettingsWrite :
    ∀ s ∈ [at' .standby, busy (.writing 5 [] 1) .onAir], s.ready .saveSettings 1 [] = true := by decide

theorem witness_SetClockSetsTheClock :
    (∀ c ∈ [59, 60], (at' .standby).ready .setClock 1 (be3 16777215 ++ be1 c) = true) ∧
      ({ at' .standby with builder := { State.reset.builder with rolls := [rollOf95 1] } } : State).ready .setClock 1
        (be3 0 ++ be1 0) = true := by decide +kernel

theorem witness_StartStopAndResetChangeTheState :
    (∀ op ∈ [OpState.standby, .onAir], (at' op).ready .start 1 [] = true ∧ (at' op).ready .stop 1 [] = true) ∧
      ({ at' .standby with settings := .default } : State).ready .start 1 [] = true ∧ (at' .standby).settings.district ≠ 0 ∧
      (∀ op ∈ [OpState.standby, .onAir, .faulted], (at' op).ready .reset 1 [] = true) := by decide

/-- START with both buffers free, the tables in their form and the lists following; and with a buffer taken. -/
theorem witness_Start_prepares :
    (let s := (at' .standby).holding 95 (kitOf 702 120500)
     s.ready .start 1 [] = true ∧ s.link.op = .standby ∧ s.clock.isSet = true ∧ s.settings.district ≠ 0 ∧
       s.builder.preparing = none ∧ s.builder.ready = none ∧ s.tablesCanonical = true ∧ s.listsFollow ∧
       s.scheduler.patternWhole = true) ∧
    ∀ b ∈ [(none, some (burstOf [])), (some (burstOf []), none)],
      let s := slotStarts .standby true b.1 b.2
      s.ready .start 1 [] = true ∧ s.clock.isSet = true ∧ s.settings.district ≠ 0 ∧
        (s.builder.preparing ≠ none ∨ s.builder.ready ≠ none) :=
  ⟨⟨by decide, by decide, by decide, by decide, by decide, by decide, selection_invariants .standby⟩, by decide⟩

/-- START prepares a burst for kit 95 in the next slot, and the downlink window end after it makes no second preparation. -/
theorem witness_Start_makesTheBurst :
    (after (.start 1 []) ((at' .standby).holding 95 (kitOf 702 120500))).map (fun t =>
        (t.builder.preparing.map fun b => (b.slot, b.entries.map Entry.kit),
          (after .downlinkWindowEnd t).map fun u => u.builder == t.builder)) =
      some (some (57, [95]), some true) := by decide +kernel

/-! ### Commands on a record -/

/-- The part with kit 4,095 as this record. -/
def kit4095 (r : KitRec) : State := (at' .standby).holding 4095 r

theorem witness_EnrolRestoreAndRetireSetTheRecord :
    (let p := be2 4095 ++ be4 7 ++ be1 1 ++ be1 119 ++ be3 128760 ++ be2 65535
     (let s := at' .standby
      s.ready .enrol 1 p = true ∧ s.tablesCanonical = true ∧ s.kit (field p 0 2) = .free ∧ field p 0 2 ≤ 4095 ∧
        s.roomFor (field p 0 2) = true ∧ field p 7 1 ≤ 119 ∧ field p 8 3 ≤ min (s.clock.dh + s.settings.advance) 16777215) ∧
     (let s := (at' .standby).putKit 4095 .damaged
      s.ready .restore 1 p = true ∧ s.tablesCanonical = true ∧ s.kit (field p 0 2) = .damaged ∧
        s.roomFor (field p 0 2) = true)) ∧
    (let s := kit4095 (kitOf 5 120500)
     s.ready .retire 1 (be2 4095) = true ∧ s.tablesCanonical = true ∧ field (be2 4095) 0 2 ≤ 4095 ∧
       s.roomFor (field (be2 4095) 0 2) = true ∧ s.kit (field (be2 4095) 0 2) ≠ .free) := by decide +kernel

/-- Grants of 1 and 8,760 hours to a locked kit, and to one whose horizon stands at the ceiling. -/
theorem witness_GrantRaisesTheHorizonUpToTheCeiling :
    ∀ h ∈ [1, 8760], ∀ r ∈ [kitOf 5 119990, kitOf 5 128760],
      let p := be2 4095 ++ be2 h ++ be1 1
      let s := kit4095 r
      s.ready .grant 1 p = true ∧ s.tablesCanonical = true ∧ field p 0 2 ≤ 4095 ∧ s.roomFor (field p 0 2) = true ∧
        s.kit (field p 0 2) = .enrolled r ∧ r.heldHours = none ∧ 1 ≤ field p 2 2 ∧ field p 2 2 ≤ 8760 := by decide +kernel

theorem witness_GrantToAHeldKitAddsHeldHours :
    ∀ h ∈ [1, 8760], ∀ held ∈ [0, 8760],
      let p := be2 4095 ++ be2 h ++ be1 1
      let r := { kitOf 5 119990 with heldHours := some held }
      let s := kit4095 r
      s.ready .grant 1 p = true ∧ s.tablesCanonical = true ∧ field p 0 2 ≤ 4095 ∧ s.roomFor (field p 0 2) = true ∧
        s.kit (field p 0 2) = .enrolled r ∧ r.heldHours = some held ∧ 1 ≤ field p 2 2 ∧ field p 2 2 ≤ 8760 := by
  decide +kernel

/-- Values above the ceiling, at it, and equal to the horizon. -/
theorem witness_SetHorizonPlacesTheHorizon :
    ∀ v ∈ [128761, 128760, 120500],
      let p := be2 4095 ++ be3 v ++ be1 1
      let s := kit4095 (kitOf 5 120500)
      s.ready .setHorizon 1 p = true ∧ s.tablesCanonical = true ∧ field p 0 2 ≤ 4095 ∧ s.roomFor (field p 0 2) = true ∧
        s.kit (field p 0 2) = .enrolled (kitOf 5 120500) ∧ (kitOf 5 120500).heldHours = none := by decide +kernel

theorem witness_WithdrawHoldsAndResumeReturnsTheHours :
    (let p := be2 4095 ++ be1 1
     let s := kit4095 (kitOf 5 16777215)
     s.ready .withdraw 1 p = true ∧ s.tablesCanonical = true ∧ field p 0 2 ≤ 4095 ∧ s.roomFor (field p 0 2) = true ∧
       s.kit (field p 0 2) = .enrolled (kitOf 5 16777215) ∧ (kitOf 5 16777215).heldHours = none) ∧
    (let p := be2 4095 ++ be1 1
     let r := { kitOf 5 120000 with heldHours := some 17520 }
     let s := kit4095 r
     s.ready .resume 1 p = true ∧ s.tablesCanonical = true ∧ field p 0 2 ≤ 4095 ∧ s.roomFor (field p 0 2) = true ∧
       s.kit (field p 0 2) = .enrolled r ∧ r.heldHours = some 17520) := by decide +kernel

theorem witness_MoveOrdersTheNewSlot :
    let p := be2 4095 ++ be1 119 ++ be1 1
    let s := kit4095 (kitOf 5 120500)
    s.ready .move 1 p = true ∧ s.tablesCanonical = true ∧ field p 0 2 ≤ 4095 ∧ s.roomFor (field p 0 2) = true ∧
      s.kit (field p 0 2) = .enrolled (kitOf 5 120500) ∧ (kitOf 5 120500).answers = true ∧ s.settings.uplink = true ∧
      (kitOf 5 120500).moveIssue = none ∧ field p 2 1 ≤ 119 ∧ field p 2 1 ≠ (kitOf 5 120500).listen := by decide +kernel

/-- An ENROL BLOCK payload with this first kit and count, each record alike. -/
def blockOf (k count : Nat) (record : List Byte) : List Byte :=
  be2 k ++ be1 count ++ (List.replicate (if count ≤ 20 then count else 0) record).flatten

/-- The arguments of one record of an ENROL BLOCK. -/
def recordArgs (slot horizon : Nat) : List Byte := be4 7 ++ be1 1 ++ be1 slot ++ be3 horizon ++ be2 5

/-- Counts 0, 21, 1 and 20; kit numbers 4,095 and 4,096; a record out of range; a first kit that is not FREE. -/
theorem witness_EnrolBlockEnrolsOneKitAtATime :
    (∀ p ∈ [blockOf 5 0 [], blockOf 5 21 [], blockOf 4096 1 (recordArgs 119 128760), blockOf 4095 1 (recordArgs 119 128760),
        blockOf 4076 20 (recordArgs 119 128760), blockOf 5 1 (recordArgs 120 0), blockOf 5 1 (recordArgs 0 128761)],
      (at' .standby).ready .enrolBlock 1 p = true) ∧ (at' .standby).tablesCanonical = true ∧
      (at' .standby).roomFor 4095 = true ∧ (at' .standby).kit 4095 = .free ∧
      (kit4095 (kitOf 5 120500)).ready .enrolBlock 1 (blockOf 4095 1 (recordArgs 119 128760)) = true ∧
      (kit4095 (kitOf 5 120500)).kit 4095 ≠ .free := by decide +kernel

/-- The part with this queue, and this command in hand. -/
def waiting (queue : List Nat) (h : Hand) : State :=
  { (at' .standby).holding 4095 (kitOf 5 120500) with
    store := { (at' .standby).store with queue := queue, mode := .writing 50 [] 1 }
    link := { (at' .standby).link with hand := some h } }

/-- A command that waits on a full queue, one that has room, and an ENROL BLOCK at its second record. -/
theorem witness_CommandReckoningAppliesOrAnswers :
    let h := newHand .withdraw 1 (be2 4095 ++ be1 0)
    (∀ q ∈ [List.range 32, []],
      let s := waiting q h
      s.live = true ∧ s.link.hand = some h ∧ h.reckoned = false ∧ s.tablesCanonical = true ∧ h.kind ≠ .enrolBlock ∧
        (s.canAccept 4095 = false ↔ q ≠ []) ∧ (s.roomFor 4095 = true ↔ q = [])) ∧
    (let h := { newHand .enrolBlock 1 (blockOf 5 2 (recordArgs 119 128760)) with enrolled := 1, awaits := [(5, false)] }
     let s := waiting [5] h
     s.live = true ∧ s.link.hand = some h ∧ h.reckoned = false ∧ s.tablesCanonical = true ∧
       s.roomFor (field h.payload 0 2 + h.enrolled) = true ∧ s.kit (field h.payload 0 2 + h.enrolled) = .free ∧
       field (blockArgs h.payload h.enrolled) 5 1 ≤ 119 ∧
       field (blockArgs h.payload h.enrolled) 6 3 ≤ min (s.clock.dh + s.settings.advance) 16777215) := by decide +kernel

/-- The second record of an ENROL BLOCK of two, of one of three, and of one of three whose third kit would be 4,096. -/
theorem witness_CommandReckoning_endsTheBlock :
    ∀ x ∈ [(5, 2, true, Status.ok), (5, 3, false, .ok), (4094, 3, true, .noKit)],
      let h := { newHand .enrolBlock 1 (blockOf x.1 x.2.1 (recordArgs 119 128760)) with
        enrolled := 1, awaits := [(x.1, false)] }
      let s : State := { waiting [x.1] h with roster := [] }
      s.live = true ∧ s.link.hand = some h ∧ h.reckoned = false ∧ s.tablesCanonical = true ∧
        s.roomFor (x.1 + 1) = true ∧ s.kit (x.1 + 1) = .free ∧
        (after .commandReckoning s).map (fun t => t.link.hand.map fun h' => (h'.reckoned, h'.status, h'.awaits.map Prod.fst)) =
          some (some (x.2.2.1, x.2.2.2, [x.1, x.1 + 1])) := by decide +kernel

/-- The second record of an ENROL BLOCK whose kit, 4,095, is not FREE, or whose slot or horizon is one too high, with the
first record's write verified and with it still waited for; and one that waits on a full queue. -/
theorem witness_CommandReckoning_stopsTheBlock :
    (∀ aw ∈ [[], [(4094, false)]],
      let h := { newHand .enrolBlock 1 (blockOf 4094 2 (recordArgs 119 128760)) with enrolled := 1, awaits := aw }
      let s := waiting [] h
      s.live = true ∧ s.link.hand = some h ∧ h.reckoned = false ∧ h.settings = false ∧ s.tablesCanonical = true ∧
        field h.payload 0 2 + h.enrolled = 4095 ∧ s.roomFor 4095 = true ∧ s.kit 4095 ≠ .free) ∧
    (∀ a ∈ [recordArgs 120 0, recordArgs 119 128761],
      let h := { newHand .enrolBlock 1 (blockOf 5 2 a) with enrolled := 1 }
      let s := waiting [] h
      s.link.hand = some h ∧ s.roomFor 6 = true ∧ s.kit 6 = .free ∧
        (119 < field (blockArgs h.payload h.enrolled) 5 1 ∨
          min (s.clock.dh + s.settings.advance) 16777215 < field (blockArgs h.payload h.enrolled) 6 3)) ∧
    (let h := { newHand .enrolBlock 1 (blockOf 4094 2 (recordArgs 119 128760)) with enrolled := 1 }
     (waiting (List.range 32) h).canAccept 4095 = false) := by decide +kernel

/-- One frame for each refusal: kit 4,096; a state that does not fit; slot and horizon; hours 0 and 8,761; ONE WAY; a move
pending; slot 120 and the kit's own slot. -/
theorem witness_RefusalsChangeNoRecord :
    (at' .standby).ready .withdraw 1 (be2 4096 ++ be1 0) = true ∧
      ((at' .standby).ready .withdraw 1 (be2 4095 ++ be1 0) = true ∧ (at' .standby).roomFor 4095 = true ∧
        (at' .standby).kit 4095 = .free) ∧
      (∀ a ∈ [recordArgs 120 0, recordArgs 119 128761], (at' .standby).ready .enrol 1 (be2 4095 ++ a) = true) ∧
      (∀ h ∈ [0, 8761], (kit4095 (kitOf 5 120500)).ready .grant 1 (be2 4095 ++ be2 h ++ be1 0) = true) ∧
      (∀ r ∈ [{ kitOf 5 120500 with answers := false }, { kitOf 5 120500 with ordered := 58, moveIssue := some 5 },
          kitOf 5 120500],
        ∀ slot ∈ [120, 57], (kit4095 r).ready .move 1 (be2 4095 ++ be1 slot ++ be1 0) = true ∧
          (kit4095 r).roomFor 4095 = true ∧ (kit4095 r).kit 4095 = .enrolled r) := by decide +kernel

/-! ### Invariants -/

/-- A part at its capacities: 32 indices, 32 notices with 255 lost, two frames, two rolls, seven replies and a command. -/
def fullPart : State :=
  let s := at' .onAir
  { s with
    builder := { s.builder with rolls := [rollOf95 1, rollOf95 2] }
    framer := { s.framer with fifo := [frame95 1 0, frame95 2 0] }
    store := { s.store with queue := List.range 32, mode := .writing 50 [] 1 }
    link := { s.link with
      notices := List.replicate 32 { kind := .damaged, dh := 0, cycle := 0, kit := some 3 }
      lost := 255
      replies := List.replicate 7 (replyTo .status 1 .ok [])
      hand := some (newHand .grant 1 (be2 40 ++ be2 72 ++ be1 0)) }
    pending := [.commandReckoning] }

theorem witness_EveryStepKeepsTheCapacities :
    fullPart.withinCapacities = true ∧ fullPart.queueOnce = true ∧ fullPart.tablesCanonical = true ∧
      fullPart.clock.inRange = true ∧ fullPart.link.counters.inRange = true ∧ fullPart.scheduler.patternWhole = true := by
  decide +kernel

/-- Any command goes on, so a step from here answers a next state. -/
theorem witness_EveryStepKeeps_next : ∃ t, step { at' .onAir with pending := [.hourTick] } = .next t := ⟨_, rfl⟩

theorem witness_EveryStepKeepsTheListsOnTheRecords :
    (enrolled1207.tablesCanonical = true ∧ enrolled1207.list 57 = [1207]) ∧ enrolled1207.listsFollow :=
  ⟨by decide +kernel, Laws.listsFollow_putKit (by decide +kernel) (listsFollow_at .onAir) 1207 _⟩

theorem witness_EveryStepKeepsTheRecordsValid : enrolled1207.recordsValid := by
  refine ⟨by decide, by decide, by decide, fun k => ?_⟩
  by_cases h : k = 1207
  · subst h; decide +kernel
  · have : enrolled1207.kit k = .free := by
      simp [enrolled1207, State.holding, h, at', State.reset, State.kit, lookupAt]
    rw [this]; rfl

theorem witness_OnlyTheNamedCommandsChangeTheOperatingState :
    (at' .standby).storeFits ∧ ∃ t, exec (.start 1 []) (at' .standby) = .next t ∧ t.link.op = .onAir := by
  refine ⟨⟨⟨.inl rfl, rfl, rfl⟩, ?_, ?_⟩, _, rfl, by decide +kernel⟩
  · intro h; exact Bool.noConfusion h
  · intro h; exact OpState.noConfusion h

end Sys2Proof.Tests
end

section
/-! SUPPORT. The acts on the air side: what closes of rolls, counts at transmission and receipts are made of, and what all of
them keep. -/

namespace Sys2Proof.Proofs

open Sys2Proof Sys2Proof.Machine Sys2Proof.Laws

/-! ### Records that agree in what is stored -/

theorem KitRec.sameStored_refl (r : KitRec) : r.sameStored r := ⟨rfl, rfl, rfl, rfl, rfl, rfl, rfl, rfl, rfl⟩

theorem KitRec.sameStored_trans {r r' r'' : KitRec} (h : r.sameStored r') (h' : r'.sameStored r'') : r.sameStored r'' := by
  obtain ⟨h1, h2, h3, h4, h5, h6, h7, h8, h9⟩ := h
  obtain ⟨g1, g2, g3, g4, g5, g6, g7, g8, g9⟩ := h'
  exact ⟨g1.trans h1, g2.trans h2, g3.trans h3, g4.trans h4, g5.trans h5, g6.trans h6, g7.trans h7, g8.trans h8,
    g9.trans h9⟩

theorem Kit.sameStored_refl (a : Kit) : a.sameStored a := by
  cases a
  · rfl
  · rfl
  · exact KitRec.sameStored_refl _

/-- Two kits with the same stored fields are equal, or both enrolled. -/
theorem Kit.sameStored_iff {a b : Kit} :
    a.sameStored b ↔ a = b ∨ ∃ r r', a = .enrolled r ∧ b = .enrolled r' ∧ r.sameStored r' := by
  constructor
  · intro h
    cases a with
    | enrolled r =>
      cases b with
      | enrolled r' => exact .inr ⟨r, r', rfl, rfl, h⟩
      | free => cases h
      | damaged => cases h
    | free => cases b <;> exact .inl h
    | damaged => cases b <;> exact .inl h
  · rintro (rfl | ⟨r, r', rfl, rfl, h⟩)
    · exact Kit.sameStored_refl a
    · exact h

theorem Kit.sameStored_trans {a b c : Kit} (h : a.sameStored b) (h' : b.sameStored c) : a.sameStored c := by
  obtain rfl | ⟨r, r', rfl, rfl, hr⟩ := Kit.sameStored_iff.1 h
  · exact h'
  · obtain rfl | ⟨r1, r2, h1, rfl, hr'⟩ := Kit.sameStored_iff.1 h'
    · exact h
    · cases h1
      exact KitRec.sameStored_trans hr hr'

/-! ### The elementary acts -/

/-- One elementary act on the air side: a change of an enrolled record's volatile fields, a post, a count, a change of the
buffers or rolls, or a slot's idle counter zeroed. -/
inductive AirAct : State → State → Prop where
  | record {s : State} {k : Nat} {r : KitRec} (r' : KitRec) (hk : s.kit k = .enrolled r) (hs : r.sameStored r') :
      AirAct s (s.putKit k (.enrolled r'))
  | post (s : State) (n : NoticeKind) (k : Option Nat) : AirAct s (s.post n k)
  | count (s : State) (w : Counter) (n : Nat) :
      AirAct s (s.onLink fun l => { l with counters := l.counters.raise w n })
  | builder (s : State) (f : Builder → Builder) : AirAct s (s.onBuilder f)
  | idle (s : State) (slot : Nat) : AirAct s (s.onScheduler fun q => { q with idle := setAt 0 slot 0 q.idle })

/-- A run of acts on the air side. -/
abbrev AirActs : State → State → Prop := Relation.ReflTransGen AirAct

/-- What no act on the air side touches, or only moves forward. -/
structure AirKept (s t : State) : Prop where
  pins     : t.pins = s.pins
  clock    : t.clock = s.clock
  walk     : t.walk = s.walk
  settings : t.settings = s.settings
  framer   : t.framer = s.framer
  handler  : t.handler = s.handler
  store    : t.store = s.store
  pending  : t.pending = s.pending
  pattern  : t.scheduler.pattern = s.scheduler.pattern
  pointer  : t.scheduler.pointer = s.scheduler.pointer
  op       : t.link.op = s.link.op
  receiver : t.link.receiver = s.link.receiver
  hand     : t.link.hand = s.link.hand
  replies  : t.link.replies = s.link.replies
  notices  : s.link.notices <+: t.link.notices
  counters : s.link.counters.inRange = true → t.link.counters.inRange = true
  stored   : ∀ k, (s.kit k).sameStored (t.kit k)

theorem AirKept.refl (s : State) : AirKept s s :=
  ⟨rfl, rfl, rfl, rfl, rfl, rfl, rfl, rfl, rfl, rfl, rfl, rfl, rfl, rfl, List.prefix_refl _, id,
    fun _ => Kit.sameStored_refl _⟩

theorem AirKept.trans {s t u : State} (h : AirKept s t) (h' : AirKept t u) : AirKept s u where
  pins := h'.pins.trans h.pins
  clock := h'.clock.trans h.clock
  walk := h'.walk.trans h.walk
  settings := h'.settings.trans h.settings
  framer := h'.framer.trans h.framer
  handler := h'.handler.trans h.handler
  store := h'.store.trans h.store
  pending := h'.pending.trans h.pending
  pattern := h'.pattern.trans h.pattern
  pointer := h'.pointer.trans h.pointer
  op := h'.op.trans h.op
  receiver := h'.receiver.trans h.receiver
  hand := h'.hand.trans h.hand
  replies := h'.replies.trans h.replies
  notices := h.notices.trans h'.notices
  counters := h'.counters ∘ h.counters
  stored := fun k => Kit.sameStored_trans (h.stored k) (h'.stored k)

/-- A record put over one with the same stored fields leaves every record's stored fields. -/
theorem stored_putKit {s : State} {k : Nat} {r : KitRec} (r' : KitRec) (hk : s.kit k = .enrolled r)
    (hs : r.sameStored r') (j : Nat) : (s.kit j).sameStored ((s.putKit k (.enrolled r')).kit j) := by
  rw [kit_putKit]
  split
  · subst j; rw [hk]; exact hs
  · exact Kit.sameStored_refl _

theorem AirAct.kept {s t : State} (h : AirAct s t) : AirKept s t := by
  cases h with
  | record r' hk hs => exact { AirKept.refl s with stored := stored_putKit r' hk hs }
  | post n k =>
    exact { AirKept.refl s with
      op := post_link_op s n k, receiver := post_link_receiver s n k, hand := post_link_hand s n k
      replies := post_link_replies s n k, notices := post_notices_prefix s n k
      counters := by rw [post_link_counters]; exact id }
  | count w n => exact { AirKept.refl s with counters := Counters.inRange_raise _ w n }
  | builder f => exact { AirKept.refl s with }
  | idle slot => exact { AirKept.refl s with }

theorem AirActs.kept {s t : State} (h : AirActs s t) : AirKept s t := by
  induction h with
  | refl => exact .refl s
  | tail _ ha ih => exact ih.trans ha.kept

theorem AirActs.foldl {β : Type} (f : State → β → State) (hf : ∀ s b, AirActs s (f s b)) (l : List β) (s : State) :
    AirActs s (l.foldl f s) := by
  induction l generalizing s with
  | nil => exact .refl
  | cons b l ih => exact (hf s b).trans (ih (f s b))

/-- A post that may be made. -/
theorem airActs_post_if {s t : State} (h : AirActs s t) (c : Bool) (n : NoticeKind) (k : Option Nat) :
    AirActs s (if c then t.post n k else t) := by
  cases c
  · exact h
  · exact h.tail (.post t n k)

theorem airActs_raise (s : State) (w : Counter) : AirActs s (s.raise w) := .single (.count s w 1)

/-! ### Closing rolls (R126 to R129) -/

theorem airActs_chargePosition (roll : Roll) (s : State) (p : Position) : AirActs s (s.chargePosition roll p) := by
  rcases chargePosition_cases roll s p with h | ⟨r, hk, -, h⟩
  · rw [h]
  · rw [h]
    exact airActs_post_if (airActs_post_if
      (.single (.record _ hk (by exact ⟨rfl, rfl, rfl, rfl, rfl, rfl, rfl, rfl, rfl⟩))) _ _ _) _ _ _

theorem airActs_closeRoll (s : State) (roll : Roll) : AirActs s (s.closeRoll roll) :=
  (AirActs.foldl _ (airActs_chargePosition roll) _ s).tail (.builder _ _)

theorem airActs_closeDone (s : State) : AirActs s s.closeDone := AirActs.foldl _ airActs_closeRoll _ s

/-- The part with the frame in hand off the FIFO and the handler IDLE. -/
def State.frameDropped (s : State) : State := (s.onFramer fun f => { f with fifo := f.fifo.tail }).setHandler .idle

theorem airActs_finishFrame (s : State) : AirActs (State.frameDropped s) s.finishFrame := airActs_closeDone _

/-! ### Counts at transmission (R85 to R89, R97, R102) -/

theorem airActs_settleKit {s : State} {k : Nat} {r r' : KitRec} (hk : s.kit k = .enrolled r) (hs : r.sameStored r')
    (confirmed : Bool) : AirActs s (s.settleKit k r' confirmed) := by
  obtain ⟨h1, h2, h3, h4, h5, h6, h7, h8, h9⟩ := hs
  exact airActs_post_if (.single (.record { r' with confirmed := some r'.issue, settled := true, notify := false } hk
    ⟨h1, h2, h3, h4, h5, h6, h7, h8, h9⟩)) r'.notify (.delivered r'.issue confirmed) (some k)

theorem airActs_countEntry (hold : Bool) (e : Entry) (s : State) : AirActs s (s.countEntry hold e).1 := by
  unfold State.countEntry
  dsimp only
  split
  · rename_i r hk
    split
    · split
      · have hput : AirActs s (s.putKit e.kit (.enrolled (countedRec s.clock.absCycle r))) :=
          .single (.record _ hk ⟨rfl, rfl, rfl, rfl, rfl, rfl, rfl, rfl, rfl⟩)
        dsimp only
        split
        · exact hput.trans (airActs_raise _ _)
        · exact hput
      · dsimp only
        split
        · exact airActs_settleKit (r' := { countedRec s.clock.absCycle r with sends := sendsAfter s.settings hold r })
            hk ⟨rfl, rfl, rfl, rfl, rfl, rfl, rfl, rfl, rfl⟩ false
        · exact .single (.record _ hk ⟨rfl, rfl, rfl, rfl, rfl, rfl, rfl, rfl, rfl⟩)
    · exact .refl
  · exact .refl

theorem airActs_countEntries (hold : Bool) (es : List Entry) (s : State) : AirActs s (State.countEntries hold es s).1 := by
  induction es generalizing s with
  | nil => exact .refl
  | cons e es ih => exact (airActs_countEntry hold e s).trans (ih _)

theorem airActs_openRoll (b : Burst) (ps : List Position) (s : State) : AirActs s (s.openRoll b ps) := by
  unfold State.openRoll
  dsimp only
  refine Relation.ReflTransGen.tail ?_ (.builder _ _)
  split
  · split
    · exact airActs_closeRoll s _
    · exact .refl
  · exact .refl

theorem airActs_countBurst (entries stale : Nat) (s : State) :
    AirActs s (s.onLink fun l => { l with counters := countBurst entries stale l.counters }) := by
  by_cases h : entries = 0
  · have h4 := (((airActs_raise s .bursts).trans (airActs_raise _ .headerBursts)).tail (.count _ .entries entries)).tail
      (.count _ .staleEntries stale)
    simpa [countBurst, h, State.onLink, State.raise] using h4
  · have h3 := ((airActs_raise s .bursts).tail (.count _ .entries entries)).tail (.count _ .staleEntries stale)
    simpa [countBurst, h, State.onLink, State.raise] using h3

theorem airActs_goOnAir (b : Burst) (s : State) : AirActs s (s.goOnAir b) := by
  unfold State.goOnAir
  dsimp only
  have hcounted := fun f => (Relation.ReflTransGen.single (AirAct.builder s f)).trans
    (airActs_countEntries b.hold b.entries (s.onBuilder f))
  refine Relation.ReflTransGen.trans (Relation.ReflTransGen.tail ?_ (.idle _ b.slot)) (airActs_countBurst _ _ _)
  split
  · exact hcounted _
  · exact (hcounted _).trans (airActs_openRoll _ _ _)

theorem airActs_builderAtSlotStart (s : State) : AirActs s s.builderAtSlotStart := by
  rcases builderAtSlotStart_cases s with ⟨b, -, -, -, h⟩ | ⟨-, ⟨b, -, -, h⟩ | ⟨-, h⟩⟩
  · rw [h]; exact airActs_goOnAir b s
  · rw [h]; exact (Relation.ReflTransGen.single (.builder s _)).trans (airActs_raise _ _)
  · rw [h]

/-! ### Receipts (R116 to R124) -/

theorem airActs_applyReading {s : State} {k : Nat} {r r' : KitRec} (hk : s.kit k = .enrolled r) (hs : r.sameStored r')
    (held : Issue) : AirActs s (s.applyReading k held r') := by
  unfold State.applyReading
  obtain ⟨h1, h2, h3, h4, h5, h6, h7, h8, h9⟩ := hs
  split
  · dsimp only
    have hk' : (s.raise .confirmed).kit k = .enrolled r := hk
    split
    · exact (airActs_raise s _).tail (.record _ hk' ⟨h1, h2, h3, h4, h5, h6, h7, h8, h9⟩)
    · exact (airActs_raise s _).trans (airActs_settleKit hk' ⟨h1, h2, h3, h4, h5, h6, h7, h8, h9⟩ true)
  · exact (Relation.ReflTransGen.single (.record _ hk ⟨h1, h2, h3, h4, h5, h6, h7, h8, h9⟩)).trans (airActs_raise _ _)
  · exact ((Relation.ReflTransGen.single (.record _ hk ⟨h1, h2, h3, h4, h5, h6, h7, h8, h9⟩)).trans
      (airActs_raise _ _)).tail (.post _ _ _)

/-- The record that an accepted receipt names is the one the tests found. -/
theorem kit_of_judge {s : State} {f : Frame} {roll : Roll} {k : Nat} {r : KitRec} (h : s.judge f = .accepted roll k r) :
    s.kit k = .enrolled r := by
  unfold State.judge at h
  split at h
  · cases h
  · split at h
    · cases h
    · dsimp only at h
      split at h
      · rename_i hk
        split at h
        · cases h
        · split at h
          · cases h; exact hk
          · cases h
      · cases h

/-- The part after an accepted receipt was heard, before its requests are made or its frame is finished. -/
def State.receiptHeard (roll : Roll) (k : Nat) (f : Frame) (r : KitRec) (s : State) : State :=
  let st := receiptStatus f.bytes
  let s := s.onBuilder fun b => { b with rolls := markAnswered roll.id f.position b.rolls }
  let s := if tamperHit s.settings st.lid r.tamper then s.post (.tamper (heardRec f r).tamper st) (some k) else s
  let s := if s.settings.usageNotices then s.post (.usage (receiptUsage f.bytes) st) (some k) else s
  s.applyReading k (receiptIssue f.bytes) (heardRec f r)

theorem sameStored_heardRec (f : Frame) (r : KitRec) : r.sameStored (heardRec f r) :=
  ⟨rfl, rfl, rfl, rfl, rfl, rfl, rfl, rfl, rfl⟩

theorem airActs_receiptHeard {s : State} {k : Nat} {r : KitRec} (hk : s.kit k = .enrolled r) (roll : Roll) (f : Frame) :
    AirActs s (State.receiptHeard roll k f r s) := by
  unfold State.receiptHeard
  dsimp only
  refine Relation.ReflTransGen.trans (airActs_post_if (airActs_post_if (.single (.builder s _)) _ _ _) _ _ _)
    (airActs_applyReading ?_ (sameStored_heardRec f r) _)
  rw [← hk]
  apply kit_congr
  split <;> split <;> rfl

/-- What an accepted receipt does once it was heard: the frame is finished, or its requests are made. -/
theorem acceptReceipt_cases (s : State) (roll : Roll) (k : Nat) (f : Frame) (r : KitRec) :
    (s.receiptRequests roll k f r = [] ∧ s.acceptReceipt roll k f r = (State.receiptHeard roll k f r s).finishFrame) ∨
      ∃ q rest, s.receiptRequests roll k f r = q :: rest ∧
        s.acceptReceipt roll k f r = (State.receiptHeard roll k f r s).setHandler (.stalled q rest.head?) := by
  unfold State.acceptReceipt
  cases hq : s.receiptRequests roll k f r with
  | nil => exact .inl ⟨rfl, rfl⟩
  | cons q rest => exact .inr ⟨q, rest, rfl, rfl⟩

/-- What the handling of a frame does: acts on the air side, and then the frame is finished, or its requests are made, which
happens in FAULTED for none. -/
theorem handleFrame_cases (f : Frame) (s : State) :
    ∃ u, AirActs s u ∧ (s.handleFrame f = u.finishFrame ∨
      (s.link.op ≠ .faulted ∧ ∃ q rest, s.handleFrame f = u.setHandler (.stalled q rest))) := by
  unfold State.handleFrame
  split
  · exact ⟨_, airActs_raise s _, .inl rfl⟩
  · exact ⟨_, airActs_post_if (airActs_raise s _) _ _ _, .inl rfl⟩
  · exact ⟨_, airActs_post_if (airActs_raise s _) _ _ _, .inl rfl⟩
  · rename_i roll k r hj
    have hu := airActs_receiptHeard (kit_of_judge hj) roll f
    obtain ⟨-, h⟩ | ⟨q, rest, hq, h⟩ := acceptReceipt_cases s roll k f r
    · exact ⟨_, hu, .inl h⟩
    · refine ⟨_, hu, .inr ⟨fun hf => ?_, q, _, h⟩⟩
      simp [State.receiptRequests, hf] at hq

end Sys2Proof.Proofs
end

section
/-! SUPPORT. The acts of a reckoning: what the requests that wait for the dirty queue are made of (R41, R124, R146), what they
keep, and how a write starts. -/

namespace Sys2Proof.Proofs

open Sys2Proof Sys2Proof.Machine Sys2Proof.Laws

/-- One elementary act of a reckoning: an act on the air side, a record applied that the queue can accept, a change of the
command in hand that is not reckoned yet or its reply, a change of the walk or the handler, the frame in hand dropped, and a
move of the rotation pointer. -/
inductive ReckonAct : State → State → Prop where
  | air {s t : State} (h : AirAct s t) : ReckonAct s t
  | apply {s : State} {k : Nat} (kit : Kit) (hk : s.canAccept k = true) : ReckonAct s (s.applyRecord k kit)
  | hand {s : State} {h h' : Hand} (hh : s.link.hand = some h) (hr : h.reckoned = false)
      (hs : h'.settings = h.settings) : ReckonAct s (s.setHand h')
  | answer {s : State} {h : Hand} (st : Status) (content : List Byte) (hh : s.link.hand = some h)
      (hr : h.reckoned = false ∨ h.settings = false) : ReckonAct s (s.answerHand h st content)
  | walk (s : State) (w : Option Walk) : ReckonAct s (s.setWalk w)
  | handler (s : State) (h : Handler) : ReckonAct s (s.setHandler h)
  | frame (s : State) : ReckonAct s (State.frameDropped s)
  | rotation (s : State) (r : Requester) : ReckonAct s (s.onStore fun c => { c with rotation := r })

/-- A run of acts of reckonings. -/
abbrev ReckonActs : State → State → Prop := Relation.ReflTransGen ReckonAct

theorem AirActs.reckon {s t : State} (h : AirActs s t) : ReckonActs s t :=
  Relation.ReflTransGen.mono (fun _ _ => ReckonAct.air) _ _ h

/-- What no act of a reckoning touches; a command in hand that is reckoned and waits for the settings write stays, and no
index leaves the dirty queue. -/
structure ReckonKept (s t : State) : Prop where
  mode    : t.store.mode = s.store.mode
  owed    : t.store.owed = s.store.owed
  pattern : t.scheduler.pattern = s.scheduler.pattern
  pointer : t.scheduler.pointer = s.scheduler.pointer
  queue   : ∀ k ∈ s.store.queue, k ∈ t.store.queue
  hand    : ∀ h, s.link.hand = some h → h.reckoned = true → h.settings = true → t.link.hand = some h

theorem ReckonKept.refl (s : State) : ReckonKept s s := ⟨rfl, rfl, rfl, rfl, fun _ h => h, fun _ h _ _ => h⟩

theorem ReckonKept.trans {s t u : State} (h : ReckonKept s t) (h' : ReckonKept t u) : ReckonKept s u where
  mode := h'.mode.trans h.mode
  owed := h'.owed.trans h.owed
  pattern := h'.pattern.trans h.pattern
  pointer := h'.pointer.trans h.pointer
  queue := fun k hk => h'.queue k (h.queue k hk)
  hand := fun c hc hr hs => h'.hand c (h.hand c hc hr hs) hr hs

theorem ReckonAct.kept {s t : State} (h : ReckonAct s t) : ReckonKept s t := by
  cases h with
  | air h =>
    have k := h.kept
    exact ⟨by rw [k.store], by rw [k.store], k.pattern, k.pointer, by rw [k.store]; exact fun _ h => h,
      fun _ hh _ _ => k.hand.trans hh⟩
  | @apply k kit hk =>
    have hs : (s.applyRecord k kit).store = { s.store with queue := (s.applyRecord k kit).store.queue } :=
      enqueue_store (s.putKit k kit) k
    refine { ReckonKept.refl s with mode := by rw [hs], owed := by rw [hs], queue := fun j hj => ?_ }
    rw [applyRecord_eq, enqueue_queue]
    split
    · exact hj
    · exact List.mem_append_left _ hj
  | hand hh hr hs =>
    refine { ReckonKept.refl s with hand := fun c hc hr' _ => ?_ }
    rw [hh] at hc; cases hc; rw [hr] at hr'; cases hr'
  | answer st content hh hr =>
    refine { ReckonKept.refl s with hand := fun c hc hr' hs' => ?_ }
    rw [hh] at hc; cases hc; rw [hr', hs'] at hr; simp at hr
  | walk w => exact { ReckonKept.refl s with }
  | handler h => exact { ReckonKept.refl s with }
  | frame => exact { ReckonKept.refl s with }
  | rotation r => exact { ReckonKept.refl s with }

theorem ReckonActs.kept {s t : State} (h : ReckonActs s t) : ReckonKept s t := by
  induction h with
  | refl => exact .refl s
  | tail _ ha ih => exact ih.trans ha.kept

/-! ### The requesters (R41, R52, R53, R63, R137) -/

theorem reckonActs_finishFrame (s : State) : ReckonActs s s.finishFrame :=
  (Relation.ReflTransGen.single (.frame s)).trans (airActs_finishFrame s).reckon

theorem reckonActs_endWalk (s : State) (w : Walk) (aborted : Bool) : ReckonActs s (s.endWalk w aborted) :=
  (Relation.ReflTransGen.single (.walk s none)).tail (.air (.post _ _ _))

theorem reckonActs_finishIndex (s : State) (w : Walk) (changed : Bool) : ReckonActs s (s.finishIndex w changed) := by
  rcases finishIndex_cases s w changed with ⟨-, h⟩ | ⟨-, -, h⟩ | ⟨-, -, h⟩ <;> rw [h]
  · exact reckonActs_endWalk _ _ _
  · exact reckonActs_endWalk _ _ _
  · exact .single (.walk s _)

theorem reckonActs_settleHand (s : State) : ReckonActs s s.settleHand := by
  rcases settleHand_cases s with h | ⟨c, hc, -, -, hs, h⟩
  · rw [h]
  · rw [h]; exact .single (.answer _ _ hc (.inr hs))

theorem reckonActs_reckonBlock {s : State} {h : Hand} (hh : s.link.hand = some h) (hr : h.reckoned = false)
    (hk : s.canAccept (kitArg h.payload + h.enrolled) = true) : ReckonActs s (s.reckonBlock h) := by
  unfold State.reckonBlock
  dsimp only
  split
  · exact (Relation.ReflTransGen.single (.hand hh hr (by rfl))).trans (reckonActs_settleHand _)
  · refine (Relation.ReflTransGen.single (.apply _ hk)).tail (.hand (h := h) hh hr ?_)
    split
    · rfl
    · split <;> rfl

theorem reckonActs_reckonLink {s : State} (hk : ∀ k, s.wants .link = some k → s.canAccept k = true) :
    ReckonActs s s.reckonLink := by
  cases hh : s.link.hand with
  | none => simp only [State.reckonLink, hh]; exact .refl
  | some h =>
    by_cases hr : h.reckoned = true
    · simp only [State.reckonLink, hh, hr, if_true]; exact .refl
    · have hr : h.reckoned = false := by simpa using hr
      by_cases hb : h.kind = .enrolBlock
      · have hw : s.wants .link = some (kitArg h.payload + h.enrolled) := by simp [State.wants, hh, Hand.target, hr, hb]
        simp only [State.reckonLink, hh, hr, hb, Bool.false_eq_true, if_false, if_true]
        exact reckonActs_reckonBlock hh hr (hk _ hw)
      · have hw : s.wants .link = some (kitArg h.payload) := by simp [State.wants, hh, Hand.target, hr, hb]
        obtain ⟨st, content, -, h1⟩ | ⟨kit, st, content, -, h1⟩ := reckonLink_cases hh hr hb
        · rw [h1]; exact .single (.answer _ _ hh (.inl hr))
        · rw [h1]; exact (Relation.ReflTransGen.single (.apply kit (hk _ hw))).tail (.hand (h := h) hh hr rfl)

theorem reckonActs_reckonWalker {s : State} (hk : ∀ k, s.wants .walker = some k → s.canAccept k = true) :
    ReckonActs s s.reckonWalker := by
  unfold State.reckonWalker
  split
  · exact .refl
  · rename_i w hw
    split
    · rename_i hi
      have hacc := hk w.next (by simp [State.wants, hw, hi])
      split
      · split
        · exact (Relation.ReflTransGen.single (.apply _ hacc)).trans (reckonActs_finishIndex _ _ _)
        · exact reckonActs_finishIndex _ _ _
      · exact reckonActs_finishIndex _ _ _
    · exact .refl

theorem reckonActs_reckonMove {s : State} {k : Nat} (hk : s.canAccept k = true) : ReckonActs s (s.reckonMove k) := by
  unfold State.reckonMove
  split
  · split
    · exact (Relation.ReflTransGen.single (.apply _ hk)).tail (.air (.post _ _ _))
    · exact .refl
  · exact .refl

theorem reckonActs_reckonTamper {s : State} {k : Nat} (hk : s.canAccept k = true) : ReckonActs s (s.reckonTamper k) := by
  unfold State.reckonTamper
  split
  · split
    · exact (Relation.ReflTransGen.single (.apply _ hk)).tail (.air (.post _ _ _))
    · exact .refl
  · exact .refl

/-- The request of the frame in hand is reckoned, by its kind. -/
def State.reckonRequest (q : HandlerReq) (s : State) : State :=
  match q with
  | .completeMove k => s.reckonMove k
  | .tamperHold k => s.reckonTamper k

/-- A stalled handler's request is reckoned; then the frame's second request is made, or the frame is finished. -/
theorem reckonHandler_stalled {s : State} {q : HandlerReq} {second : Option HandlerReq} (h : s.handler = .stalled q second) :
    s.reckonHandler = match second with
      | some q' => (State.reckonRequest q s).setHandler (.stalled q' none)
      | none => (State.reckonRequest q s).finishFrame := by
  simp only [State.reckonHandler, h]
  cases second <;> rfl

theorem reckonActs_reckonRequest {s : State} {q : HandlerReq} (hk : s.canAccept q.kit = true) :
    ReckonActs s (State.reckonRequest q s) := by
  cases q with
  | completeMove k => exact reckonActs_reckonMove hk
  | tamperHold k => exact reckonActs_reckonTamper hk

theorem reckonActs_reckonHandler {s : State} (hk : ∀ k, s.wants .handler = some k → s.canAccept k = true) :
    ReckonActs s s.reckonHandler := by
  cases hq : s.handler with
  | idle => simp only [State.reckonHandler, hq]; exact .refl
  | stalled q second =>
    have hreq := reckonActs_reckonRequest (hk q.kit (by simp [State.wants, hq]))
    rw [reckonHandler_stalled hq]
    cases second with
    | some q' => exact hreq.tail (.handler _ _)
    | none => exact hreq.trans (reckonActs_finishFrame _)

/-- Serving a requester whose request the queue can accept is a run of such acts. -/
theorem reckonActs_serve {s : State} {r : Requester} (hk : ∀ k, s.wants r = some k → s.canAccept k = true) :
    ReckonActs s (s.serve r) := by
  cases r with
  | link => exact reckonActs_reckonLink hk
  | walker => exact reckonActs_reckonWalker hk
  | handler => exact reckonActs_reckonHandler hk

/-! ### Giving out room (R146) -/

theorem canAccept_of_mem {s : State} {k : Nat} (h : k ∈ s.store.queue) : s.canAccept k = true := by
  simp [State.canAccept, h]

theorem reckonActs_serveIfFor {s : State} {k : Nat} (hk : k ∈ s.store.queue) (r : Requester) :
    ReckonActs s (s.serveIfFor k r) := by
  unfold State.serveIfFor
  split
  · rename_i hw
    exact reckonActs_serve fun j hj => by rw [hw] at hj; cases hj; exact canAccept_of_mem hk
  · exact .refl

theorem reckonActs_serveAccepted {s : State} {r : Requester} (hk : ∀ k, s.wants r = some k → s.canAccept k = true) :
    ReckonActs s (s.serveAccepted r) := by
  unfold State.serveAccepted
  split
  · exact .refl
  · rename_i k hw
    have hserve := reckonActs_serve hk
    dsimp only
    split
    · rename_i hin
      simp only [Bool.and_eq_true, List.contains_iff_mem] at hin
      have h1 := reckonActs_serveIfFor hin.2 r.next
      exact (hserve.trans h1).trans (reckonActs_serveIfFor (h1.kept.queue k hin.2) _)
    · exact hserve

theorem reckonActs_giveRoom (n : Nat) (s : State) : ReckonActs s (s.giveRoom n) := by
  induction n generalizing s with
  | zero => exact .refl
  | succ n ih =>
    unfold State.giveRoom
    split
    · rename_i hq
      split
      · exact ((reckonActs_serveAccepted fun k _ => by simp [State.canAccept, hq]).tail (.rotation _ _)).trans (ih _)
      · exact .refl
    · exact .refl

/-! ### The start of a write (R147) -/

/-- The part with the head of the queue taken off it and the replies that wait for its write marked. -/
def State.headTaken (k : Nat) (rest : List Nat) (s : State) : State :=
  (s.onStore fun c => { c with queue := rest }).onLink fun l => { l with hand := l.hand.map (markStarted k) }

/-- A record write starts: the head leaves the queue, requests may be reckoned, and the image is taken. -/
theorem startRecordWrite_acts (k : Nat) (rest : List Nat) (s : State) :
    ∃ u, ReckonActs (State.headTaken k rest s) u ∧ s.startRecordWrite k rest =
      u.onStore fun c => { c with mode := .writing k (recordImage k (u.kit k)) 1 } := by
  unfold State.startRecordWrite
  dsimp only
  split
  · exact ⟨_, reckonActs_giveRoom 4 _, rfl⟩
  · exact ⟨_, .refl, rfl⟩

/-! ### The end of a write (R148, R150, R152) -/

/-- The part with the controller IDLE after a verified record write, and no reply waiting for that write. -/
def State.writeVerified (k : Nat) (s : State) : State :=
  (s.onStore fun c => { c with mode := .idle }).onLink fun l =>
    { l with hand := l.hand.map fun h => { h with awaits := h.awaits.filter fun a => a != (k, true) } }

/-- The part with the controller IDLE after a verified settings write, none owed, and no reply waiting for it. -/
def State.saveVerified (s : State) : State :=
  (s.onStore fun c => { c with mode := .idle, owed := false }).onLink fun l =>
    { l with hand := l.hand.map fun h => { h with settings := false } }

theorem recordVerified_eq (k : Nat) (s : State) :
    s.recordVerified k = (State.writeVerified k s).settleHand.startNextWrite := rfl

theorem settingsVerified_eq (s : State) : s.settingsVerified = (State.saveVerified s).settleHand.startNextWrite := rfl

/-! ### The store fault (R13, R151) -/

/-- The part with the controller stopped, STORE FAULT posted, in FAULTED, and the preparation discarded. -/
def State.controllerStopped (t : StoreTarget) (memoryError : Bool) (s : State) : State :=
  let kit := match t with
    | .kit k => some k
    | .settings => none
  (((s.onStore fun c => { c with mode := .stopped t }).post (.storeFault (t == .settings) memoryError) kit).setOp
    .faulted).discardPreparation

/-- The part with a walk, if there was one, ended as aborted. -/
def State.walkAborted (s : State) : State :=
  match s.walk with
  | some w => s.endWalk w true
  | none => s

/-- The part with the command in hand, if there was one, answered FAULTED. -/
def State.handRefused (s : State) : State :=
  match s.link.hand with
  | some h => s.answerHand h .faulted []
  | none => s

/-- A store fault stops the controller, ends the walk, withdraws the handler's request and refuses the command in hand. -/
theorem storeFault_eq (t : StoreTarget) (e : Bool) (s : State) :
    s.storeFault t e = State.handRefused (State.walkAborted (State.controllerStopped t e s)).withdrawHandler := rfl

/-! ### Commands as frames (R160) -/

/-- A host command is the frame of its kind, decided by its kind's rule. -/
theorem exec_commandOf (k : CmdKind) (tag : Byte) (p : List Byte) (s : State) :
    exec (commandOf k tag p) s = .next (s.receiveFrame k tag p (ruleOf k)) := by
  cases k <;> rfl

/-- The part with the frame receiver WAITING, as every complete frame leaves it (R158). -/
def State.waiting (s : State) : State := s.onLink fun l => { l with receiver := .waiting }

/-- A ready command is decided by its kind's rule. -/
theorem exec_ready {k : CmdKind} {tag : Byte} {p : List Byte} {s : State} (h : s.ready k tag p = true) :
    exec (commandOf k tag p) s = .next (ruleOf k tag p (State.waiting s)) := by
  rw [exec_commandOf, receiveFrame_ready h]; rfl

/-- A command answered at once leaves the part answered and nothing else changed. -/
theorem answerNow_waiting (k : CmdKind) (tag : Byte) (p : List Byte) (st : Status) (content : List Byte) (s : State) :
    (State.waiting s).answerNow k tag p st content = s.answered k tag p st (content ++ enrolledTail k 0) := rfl

/-- A frame that comes while a command is in hand is not taken (R160, test 1). -/
theorem receiveFrame_busy {s : State} (hl : s.live = true) (hh : s.link.hand.isSome = true) (k : CmdKind) (tag : Byte)
    (p : List Byte) (rule : Byte → List Byte → State → State) :
    s.receiveFrame k tag p rule = (State.waiting s).answerUntaken (statusReply k.code tag .busy []) := by
  simp only [State.receiveFrame, hl, if_true, onLink_link, hh]; rfl

/-- To show something of every command and event, show it of every frame and of every event. -/
theorem Instr.byFrame {P : Instr → Prop} (command : ∀ k tag p, P (commandOf k tag p))
    (powerUp : ∀ speed, P (.powerUp speed)) (resetPinAsserted : ∀ tear, P (.resetPinAsserted tear))
    (resetPinDeasserted : ∀ speed, P (.resetPinDeasserted speed)) (referenceClockStops : P .referenceClockStops)
    (referenceClockReturns : P .referenceClockReturns) (slotStart : P .slotStart)
    (downlinkWindowEnd : P .downlinkWindowEnd) (replySubWindowStart : ∀ k, P (.replySubWindowStart k))
    (replyWindowEnd : P .replyWindowEnd) (hourTick : P .hourTick) (preparationComplete : P .preparationComplete)
    (burstComplete : P .burstComplete) (uplinkFrameComplete : ∀ b, P (.uplinkFrameComplete b))
    (uplinkByteError : P .uplinkByteError) (receiptHandle : P .receiptHandle) (moveCompletion : P .moveCompletion)
    (withdrawalOnTamper : P .withdrawalOnTamper) (graceExamine : P .graceExamine) (graceReckoning : P .graceReckoning)
    (commandReckoning : P .commandReckoning) (storeAttemptComplete : ∀ e, P (.storeAttemptComplete e))
    (storeMemoryTimeout : ∀ left, P (.storeMemoryTimeout left)) (settingsBlockRead : ∀ r, P (.settingsBlockRead r))
    (kitRecordRead : ∀ r, P (.kitRecordRead r)) (closingDrainComplete : ∀ speed, P (.closingDrainComplete speed))
    (replySent : ∀ speed, P (.replySent speed)) (notePulseEnd : P .notePulseEnd)
    (linkFrameReject : ∀ r, P (.linkFrameReject r)) (linkGapExpiry : P .linkGapExpiry)
    (unknownKindFrame : ∀ kind tag, P (.unknownKindFrame kind tag)) (powerLoss : ∀ tear, P (.powerLoss tear))
    (uplinkByteArrival : ∀ b, P (.uplinkByteArrival b)) (linkByteArrival : ∀ b, P (.linkByteArrival b)) (c : Instr) :
    P c := by
  cases c with
  | identify tag p => exact command .identify tag p
  | status tag p => exact command .status tag p
  | configure tag p => exact command .configure tag p
  | loadPattern tag p => exact command .loadPattern tag p
  | saveSettings tag p => exact command .saveSettings tag p
  | setClock tag p => exact command .setClock tag p
  | start tag p => exact command .start tag p
  | stop tag p => exact command .stop tag p
  | reset tag p => exact command .reset tag p
  | enrol tag p => exact command .enrol tag p
  | enrolBlock tag p => exact command .enrolBlock tag p
  | retire tag p => exact command .retire tag p
  | restore tag p => exact command .restore tag p
  | readKit tag p => exact command .readKit tag p
  | grant tag p => exact command .grant tag p
  | setHorizon tag p => exact command .setHorizon tag p
  | withdraw tag p => exact command .withdraw tag p
  | resume tag p => exact command .resume tag p
  | move tag p => exact command .move tag p
  | grace tag p => exact command .grace tag p
  | graceAbort tag p => exact command .graceAbort tag p
  | fetchNotices tag p => exact command .fetchNotices tag p
  | counters tag p => exact command .counters tag p
  | _ => solve_by_elim

end Sys2Proof.Proofs
end

section
/-! PROOFS. Every step keeps the clock's counters, the sixteen counters, and the pattern with its pointer in their ranges. -/

namespace Sys2Proof.Proofs

open Sys2Proof Sys2Proof.Machine Sys2Proof.Laws

/-! ### The clock (R3, R4) -/

theorem Clock.inRange_iff {c : Clock} : c.inRange = true ↔ c.dh ≤ maxHour ∧ c.cycle ≤ 59 ∧ c.slot ≤ 119 := by
  simp [Clock.inRange, and_assoc]

/-- The clock one slot on, said as its four fields. -/
theorem Clock.advance_cases (c : Clock) :
    (c.slot < 119 ∧ c.advance = { c with slot := c.slot + 1, tickDue := false }) ∨
    (119 ≤ c.slot ∧ c.cycle < 59 ∧ c.advance = { c with slot := 0, cycle := c.cycle + 1, tickDue := false }) ∨
    (119 ≤ c.slot ∧ 59 ≤ c.cycle ∧ c.dh < maxHour ∧
      c.advance = { c with slot := 0, cycle := 0, dh := c.dh + 1, tickDue := false }) ∨
    (119 ≤ c.slot ∧ 59 ≤ c.cycle ∧ maxHour ≤ c.dh ∧
      c.advance = { c with slot := 0, cycle := 0, endOfCount := true, tickDue := false }) := by
  unfold Clock.advance
  split
  · exact .inl ⟨‹_›, rfl⟩
  · split
    · exact .inr (.inl ⟨by omega, ‹_›, rfl⟩)
    · split
      · exact .inr (.inr (.inl ⟨by omega, by omega, ‹_›, rfl⟩))
      · exact .inr (.inr (.inr ⟨by omega, by omega, by omega, rfl⟩))

theorem Clock.inRange_advance {c : Clock} (h : c.inRange = true) : c.advance.inRange = true := by
  rw [Clock.inRange_iff] at h ⊢
  obtain ⟨hd, hc, hs⟩ := h
  rcases Clock.advance_cases c with ⟨h1, h⟩ | ⟨-, h1, h⟩ | ⟨-, -, h1, h⟩ | ⟨-, -, -, h⟩ <;> rw [h]
  · exact ⟨hd, hc, h1⟩
  · exact ⟨hd, h1, Nat.zero_le _⟩
  · exact ⟨h1, Nat.zero_le _, Nat.zero_le _⟩
  · exact ⟨hd, Nat.zero_le _, Nat.zero_le _⟩

theorem Clock.inRange_atSlotStart {c : Clock} (h : c.inRange = true) : c.atSlotStart.inRange = true := by
  unfold Clock.atSlotStart
  split
  · split
    · exact Clock.inRange_advance h
    · exact h
  · exact Clock.inRange_advance h

theorem Clock.inRange_atHourTick {c : Clock} (h : c.inRange = true) : c.atHourTick.inRange = true := by
  unfold Clock.atHourTick
  split
  · exact Clock.inRange_advance h
  · exact h

/-- A reply window end takes a tick that is due first; then it waits for the hour tick, or moves the clock on. -/
theorem Clock.atReplyWindowEnd_eq {c : Clock} (h : c.timer ≠ .early) :
    c.atReplyWindowEnd = if c.atHourTick.atHourEnd then { c.atHourTick with tickDue := true, timer := .boundary }
      else { c.atHourTick.advance with timer := .boundary } := by
  simp only [Clock.atReplyWindowEnd, h, if_false]
  rfl

theorem Clock.inRange_atReplyWindowEnd {c : Clock} (h : c.inRange = true) : c.atReplyWindowEnd.inRange = true := by
  by_cases he : c.timer = .early
  · simp only [Clock.atReplyWindowEnd, he, if_true]; exact h
  · rw [Clock.atReplyWindowEnd_eq he]
    split
    · exact Clock.inRange_atHourTick h
    · exact Clock.inRange_advance (Clock.inRange_atHourTick h)

/-! ### Numbers that bytes hold -/

/-- The number that bytes hold, on top of a number read before. -/
theorem foldl_bytes_lt (bs : List Byte) (n : Nat) :
    bs.foldl (fun n b => n * 256 + b.toNat) n < (n + 1) * 256 ^ bs.length := by
  induction bs generalizing n with
  | nil => simp
  | cons b bs ih =>
    have hb : b.toNat < 256 := b.isLt
    calc bs.foldl (fun n b => n * 256 + b.toNat) (n * 256 + b.toNat)
        < (n * 256 + b.toNat + 1) * 256 ^ bs.length := ih _
      _ ≤ (n + 1) * 256 * 256 ^ bs.length := Nat.mul_le_mul_right _ (by omega)
      _ = (n + 1) * 256 ^ (b :: bs).length := by rw [List.length_cons, Nat.pow_succ, Nat.mul_assoc, Nat.mul_comm 256]

/-- A field of so many bytes is below the power of 256. -/
theorem field_lt (p : List Byte) (off width : Nat) : field p off width < 256 ^ width := by
  have hlen : ((p.drop off).take width).length ≤ width := List.length_take_le _ _
  calc field p off width < (0 + 1) * 256 ^ ((p.drop off).take width).length := foldl_bytes_lt _ 0
    _ ≤ 256 ^ width := by rw [Nat.zero_add, Nat.one_mul]; exact Nat.pow_le_pow_right (by omega) hlen

/-! ### The pattern (R78, R167) -/

theorem Scheduler.patternWhole_iff {q : Scheduler} : q.patternWhole = true ↔ q.pattern.length = 16 ∧ q.pointer < 16 := by
  simp [Scheduler.patternWhole]

/-- Step bytes that all name a class give as many steps. -/
theorem length_patternOfBytes {bs : List Byte} (h : firstBadStep bs = none) : (patternOfBytes bs).length = bs.length := by
  rw [firstBadStep, List.findIdx?_eq_none_iff] at h
  rw [patternOfBytes, List.length_filterMap_eq_countP, List.countP_eq_length]
  intro b hb
  have := h b hb
  cases hs : stepOfByte b <;> simp_all

/-- A settings block that passes its check is sixty-four bytes long, so its pattern has sixteen steps. -/
theorem length_pattern_of_block {b : List Byte} (h : blockFault b = none) :
    (patternOfBytes ((b.drop 14).take 16)).length = 16 := by
  unfold blockFault at h
  split at h
  · cases h
  · rename_i hcrc
    split at h
    · rename_i hf
      simp only [Bool.and_eq_true, Option.isNone_iff_eq_none] at hf
      have hcrc : crcBytes (b.take 62) = b.drop 62 := by simpa using hcrc
      have hlen : 2 = b.length - 62 := by
        rw [← List.length_drop, ← hcrc]; rfl
      rw [length_patternOfBytes hf.2]
      simp only [List.length_take, List.length_drop]
      omega
    · cases h

theorem pointer_patternPass {pat : List PatternStep} {cands : List (Nat × Machine.Class)} {p : Nat} (n ptr : Nat)
    (chosen : List Nat) (h : ptr < 16) : (patternPass pat cands p n ptr chosen).1 < 16 := by
  induction n generalizing ptr chosen with
  | zero => exact h
  | succ n ih =>
    unfold patternPass
    split
    · exact h
    · exact ih _ _ (Nat.mod_lt _ (by omega))

/-! ### Acts that keep the ranges -/

/-- The ranges of the first state hold of the second. -/
structure RangesKept (s t : State) : Prop where
  clock    : s.clock.inRange = true → t.clock.inRange = true
  counters : s.link.counters.inRange = true → t.link.counters.inRange = true
  pattern  : s.scheduler.patternWhole = true → t.scheduler.patternWhole = true

theorem RangesKept.refl (s : State) : RangesKept s s := ⟨id, id, id⟩

theorem RangesKept.trans {s t u : State} (h : RangesKept s t) (h' : RangesKept t u) : RangesKept s u :=
  ⟨h'.clock ∘ h.clock, h'.counters ∘ h.counters, h'.pattern ∘ h.pattern⟩

/-- Acts that leave the clock, the counters, the pattern and its pointer keep the ranges. -/
theorem RangesKept.of_eq {s t : State} (hc : t.clock = s.clock) (hk : t.link.counters = s.link.counters)
    (hp : t.scheduler.pattern = s.scheduler.pattern) (hq : t.scheduler.pointer = s.scheduler.pointer) :
    RangesKept s t := by
  refine ⟨by rw [hc]; exact id, by rw [hk]; exact id, ?_⟩
  simp only [Scheduler.patternWhole, hp, hq]
  exact id

/-- What follows and leaves the clock, the counters, the pattern and its pointer keeps the ranges too. -/
theorem RangesKept.then {s u t : State} (h : RangesKept s u) (hc : t.clock = u.clock)
    (hk : t.link.counters = u.link.counters) (hp : t.scheduler.pattern = u.scheduler.pattern)
    (hq : t.scheduler.pointer = u.scheduler.pointer) : RangesKept s t := h.trans (.of_eq hc hk hp hq)

theorem rangesKept_raise (s : State) (w : Counter) : RangesKept s (s.raise w) :=
  ⟨id, Counters.inRange_raise _ w 1, id⟩

theorem rangesKept_post (s : State) (n : NoticeKind) (k : Option Nat) : RangesKept s (s.post n k) :=
  .of_eq rfl (by simp) rfl rfl

theorem rangesKept_answerNow (s : State) (k : CmdKind) (tag : Byte) (p : List Byte) (st : Status) (c : List Byte) :
    RangesKept s (s.answerNow k tag p st c) := .of_eq rfl rfl rfl rfl

theorem rangesKept_airActs {s t : State} (h : AirActs s t) : RangesKept s t where
  clock := by rw [h.kept.clock]; exact id
  counters := h.kept.counters
  pattern := by simp only [Scheduler.patternWhole, h.kept.pattern, h.kept.pointer]; exact id

theorem rangesKept_finishFrame (s : State) : RangesKept s s.finishFrame :=
  (RangesKept.of_eq rfl rfl rfl rfl : RangesKept s (State.frameDropped s)).trans (rangesKept_airActs (airActs_finishFrame s))

/-- A run of reckonings keeps the ranges. -/
theorem rangesKept_reckonActs {s t : State} (hk : Kept s t) (h : ReckonActs s t) : RangesKept s t :=
  .of_eq hk.clock hk.counters h.kept.pattern h.kept.pointer

theorem rangesKept_startNextWrite (s : State) : RangesKept s s.startNextWrite := by
  have hk := kept_startNextWrite s
  rcases startNextWrite_cases s with ⟨h, -⟩ | ⟨-, -, h⟩ | ⟨k, rest, -, -, -, h⟩
  · rw [h]; exact .refl s
  · rw [h]; exact .of_eq rfl rfl rfl rfl
  · obtain ⟨u, hu, he⟩ := startRecordWrite_acts k rest s
    refine .of_eq hk.clock hk.counters ?_ ?_ <;> rw [h, he]
    · exact hu.kept.pattern
    · exact hu.kept.pointer

theorem rangesKept_tryAccept (s : State) (r : Requester) : RangesKept s (s.tryAccept r) := by
  rcases tryAccept_cases s r with ⟨h, -⟩ | ⟨k, hw, hk, h⟩ <;> rw [h]
  · exact .refl s
  · have hacc := reckonActs_serveAccepted (s := s) (r := r) fun j hj => by rw [hw] at hj; cases hj; exact hk
    exact (rangesKept_reckonActs (kept_serveAccepted s r) hacc).trans (rangesKept_startNextWrite _)

/-- A selection act moves the pointer within the pattern. -/
theorem rangesKept_beginPreparation (s : State) : RangesKept s s.beginPreparation := by
  rcases beginPreparation_cases s with ⟨-, -, h⟩ | ⟨-, h⟩ <;> rw [h]
  · refine ⟨id, id, fun hq => ?_⟩
    rw [Scheduler.patternWhole_iff] at hq ⊢
    exact ⟨hq.1, pointer_patternPass 16 _ [] hq.2⟩
  · exact .refl s

theorem rangesKept_abortWalk (s : State) : RangesKept s s.abortWalk := by
  unfold State.abortWalk
  split
  · exact .refl s
  · split
    · exact .of_eq rfl rfl rfl rfl
    · exact (RangesKept.of_eq rfl rfl rfl rfl : RangesKept s (s.setWalk none)).trans (rangesKept_post _ _ _)

theorem rangesKept_enterLoading (speed : Bool) (sending : List Reply) (s : State) :
    RangesKept s (s.enterLoading speed sending) := ⟨fun _ => rfl, fun _ => rfl, fun _ => rfl⟩

/-! ### The frames (R160) -/

theorem rangesKept_answerUntaken (r : Reply) (s : State) : RangesKept s (s.answerUntaken r) := by
  unfold State.answerUntaken
  split
  · exact .of_eq rfl rfl rfl rfl
  · exact rangesKept_raise s _

theorem rangesKept_requestRule (k : CmdKind) (tag : Byte) (p : List Byte) (s : State) :
    RangesKept s (s.requestRule k tag p) := by
  unfold State.requestRule
  split
  · exact rangesKept_answerNow s ..
  · exact (RangesKept.of_eq rfl rfl rfl rfl : RangesKept s (s.setHand (newHand k tag p))).trans (rangesKept_tryAccept _ _)

theorem rangesKept_loadPatternRule {tag : Byte} {p : List Byte} (hp : p.length = 16) (s : State) :
    RangesKept s (loadPatternRule tag p s) := by
  unfold loadPatternRule
  split
  · exact rangesKept_answerNow s ..
  · rename_i hbad
    refine ⟨id, id, fun _ => ?_⟩
    rw [Scheduler.patternWhole_iff]
    exact ⟨(length_patternOfBytes hbad).trans hp, Nat.zero_lt_succ _⟩

theorem rangesKept_setClockRule (tag : Byte) (p : List Byte) (s : State) : RangesKept s (setClockRule tag p s) := by
  unfold setClockRule
  split
  · exact rangesKept_answerNow s ..
  · split
    · exact rangesKept_answerNow s ..
    · rename_i hcycle
      have hdh : field p 0 3 ≤ maxHour := by have := field_lt p 0 3; simp only [maxHour]; omega
      exact ⟨fun _ => Clock.inRange_iff.2 ⟨hdh, Nat.le_of_not_lt hcycle, Nat.zero_le _⟩, id, id⟩

/-- Each command's rule keeps the ranges; a LOAD PATTERN that is taken has sixteen step bytes. -/
theorem rangesKept_ruleOf (k : CmdKind) (tag : Byte) {p : List Byte} (hp : p.length = requiredLength k p) (s : State) :
    RangesKept s (ruleOf k tag p s) := by
  have answer := fun st c => rangesKept_answerNow s k tag p st c
  cases k with
  | identify => exact answer _ _
  | status => exact answer _ _
  | configure =>
    show RangesKept s (configureRule tag p s)
    unfold configureRule
    split
    · exact answer _ _
    · exact .of_eq rfl rfl rfl rfl
  | loadPattern => exact rangesKept_loadPatternRule hp s
  | saveSettings =>
    show RangesKept s (saveSettingsRule tag p s)
    refine RangesKept.trans ?_ (rangesKept_startNextWrite _)
    exact .of_eq rfl rfl rfl rfl
  | setClock => exact rangesKept_setClockRule tag p s
  | start =>
    show RangesKept s (startRule tag p s)
    unfold startRule
    split
    · exact answer _ _
    · split
      · exact answer _ _
      · refine RangesKept.trans ?_ (rangesKept_beginPreparation _)
        exact .of_eq rfl rfl rfl rfl
  | stop =>
    show RangesKept s (stopRule tag p s)
    unfold stopRule
    split
    · exact answer _ _
    · exact .of_eq rfl rfl rfl rfl
  | reset =>
    show RangesKept s (resetRule tag p s)
    unfold resetRule
    split
    · exact .of_eq rfl rfl rfl rfl
    · refine RangesKept.trans ?_ (rangesKept_abortWalk _)
      exact .of_eq rfl rfl rfl rfl
  | enrolBlock =>
    show RangesKept s (enrolBlockRule tag p s)
    unfold enrolBlockRule
    split
    · exact answer _ _
    · exact rangesKept_requestRule _ _ _ _
  | readKit =>
    show RangesKept s (readKitRule tag p s)
    unfold readKitRule
    dsimp only
    split <;> exact answer _ _
  | grace =>
    show RangesKept s (graceRule tag p s)
    unfold graceRule
    split
    · exact answer _ _
    · split
      · exact answer _ _
      · exact .of_eq rfl rfl rfl rfl
  | graceAbort =>
    show RangesKept s (graceAbortRule tag p s)
    unfold graceAbortRule
    split
    · exact answer _ _
    · exact (answer _ _).trans (rangesKept_abortWalk _)
  | fetchNotices => exact .of_eq rfl rfl rfl rfl
  | counters =>
    refine ⟨id, fun h => ?_, id⟩
    show (if flagAt p 0 then Counters.zero else s.link.counters).inRange = true
    split
    · rfl
    · exact h
  | enrol => exact rangesKept_requestRule _ _ _ _
  | retire => exact rangesKept_requestRule _ _ _ _
  | restore => exact rangesKept_requestRule _ _ _ _
  | grant => exact rangesKept_requestRule _ _ _ _
  | setHorizon => exact rangesKept_requestRule _ _ _ _
  | withdraw => exact rangesKept_requestRule _ _ _ _
  | resume => exact rangesKept_requestRule _ _ _ _
  | move => exact rangesKept_requestRule _ _ _ _

/-- A taken frame has the payload length its kind requires (R160, test 4). -/
theorem length_of_ready {k : CmdKind} {tag : Byte} {p : List Byte} {s : State} (h : s.ready k tag p = true) :
    p.length = requiredLength k p := by
  simp only [State.ready, Bool.and_eq_true, beq_iff_eq] at h
  exact h.1.1.1.2

theorem rangesKept_receiveFrame (k : CmdKind) (tag : Byte) (p : List Byte) (s : State) :
    RangesKept s (s.receiveFrame k tag p (ruleOf k)) := by
  have hw : RangesKept s (State.waiting s) := .of_eq rfl rfl rfl rfl
  obtain ⟨-, h⟩ | ⟨-, ⟨r, h⟩ | h | ⟨-, st, c, h⟩ | ⟨hr, h⟩⟩ := receiveFrame_cases k tag p (ruleOf k) s <;> rw [h]
  · exact .refl s
  · exact hw.trans (rangesKept_answerUntaken r _)
  · exact hw.trans (rangesKept_raise _ _)
  · exact hw.trans (rangesKept_answerNow _ k tag p st c)
  · exact hw.trans (rangesKept_ruleOf k tag (length_of_ready hr) _)

theorem rangesKept_receiveUnknown (kind tag : Byte) (s : State) : RangesKept s (s.receiveUnknown kind tag) := by
  unfold State.receiveUnknown
  split
  · exact (RangesKept.of_eq rfl rfl rfl rfl : RangesKept s (State.waiting s)).trans (rangesKept_answerUntaken _ _)
  · exact .refl s

theorem rangesKept_rejectFrame (r : RejectReason) (s : State) : RangesKept s (s.rejectFrame r) := by
  have hr : RangesKept s ((State.waiting s).raise .linkRejects) :=
    (RangesKept.of_eq rfl rfl rfl rfl : RangesKept s (State.waiting s)).trans (rangesKept_raise _ _)
  unfold State.rejectFrame
  dsimp only
  split
  · exact hr.trans (.of_eq rfl rfl rfl rfl)
  · exact hr

theorem rangesKept_frameChecked (n : Nat) (body check : List Byte) (s : State) :
    RangesKept s (s.frameChecked n body check) := by
  unfold State.frameChecked
  split
  · split
    · split
      · exact rangesKept_receiveFrame ..
      · exact rangesKept_receiveUnknown ..
    · exact rangesKept_rejectFrame ..
  · exact rangesKept_rejectFrame ..

theorem rangesKept_takeLinkByte (b : Byte) (s : State) : RangesKept s (s.takeLinkByte b) := by
  have goTo : ∀ r, RangesKept s (s.onLink fun l => { l with receiver := r }) := fun r => .of_eq rfl rfl rfl rfl
  unfold State.takeLinkByte
  dsimp only
  split
  · split
    · exact goTo _
    · exact .refl s
  · split
    · exact rangesKept_rejectFrame ..
    · exact goTo _
  · split <;> exact goTo _
  · exact goTo _
  · exact rangesKept_frameChecked ..

/-! ### Time, the uplink and receipts -/

theorem rangesKept_onClock {s : State} {f : Clock → Clock} (h : s.clock.inRange = true → (f s.clock).inRange = true) :
    RangesKept s (s.onClock f) := ⟨h, id, id⟩

theorem rangesKept_takeSlotStart (s : State) : RangesKept s s.takeSlotStart := by
  have hclock : RangesKept s ((s.onClock Clock.atSlotStart).onBuilder fun q => { q with slotRoll := none }) :=
    (rangesKept_onClock Clock.inRange_atSlotStart).trans (.of_eq rfl rfl rfl rfl)
  exact (hclock.trans (rangesKept_airActs (airActs_builderAtSlotStart _))).trans (.of_eq rfl rfl rfl rfl)

theorem rangesKept_takeDownlinkWindowEnd (s : State) : RangesKept s s.takeDownlinkWindowEnd := by
  have hclock : RangesKept s (s.onClock fun c => { c with timer := .reply 1 }) := rangesKept_onClock id
  unfold State.takeDownlinkWindowEnd
  dsimp only
  split
  · exact hclock.trans (rangesKept_beginPreparation _)
  · exact hclock

theorem rangesKept_closeSubWindow (s : State) : RangesKept s s.closeSubWindow := by
  unfold State.closeSubWindow
  split
  · split
    · exact rangesKept_raise s _
    · exact .refl s
  · exact .refl s

theorem rangesKept_takeReplyWindowEnd (s : State) : RangesKept s s.takeReplyWindowEnd := by
  unfold State.takeReplyWindowEnd
  dsimp only
  refine RangesKept.trans (RangesKept.trans ?_ (rangesKept_onClock Clock.inRange_atReplyWindowEnd))
    (rangesKept_airActs (airActs_closeDone _))
  exact (rangesKept_closeSubWindow s).trans (.of_eq rfl rfl rfl rfl)

theorem rangesKept_completeFrame (bs : List Byte) (s : State) : RangesKept s (s.completeFrame bs) := by
  unfold State.completeFrame
  split
  · split
    · exact .of_eq rfl rfl rfl rfl
    · exact (RangesKept.of_eq rfl rfl rfl rfl : RangesKept s (s.setMode .dropping)).trans (rangesKept_raise _ _)
  · exact .refl s

theorem rangesKept_takeUplinkByte (b : Byte) (s : State) : RangesKept s (s.takeUplinkByte b) := by
  have mode : ∀ m, RangesKept s (s.setMode m) := fun m => .of_eq rfl rfl rfl rfl
  unfold State.takeUplinkByte
  split
  · split
    · exact mode _
    · exact .refl s
  · split
    · exact mode _
    · split
      · exact .refl s
      · exact mode _
  · split
    · exact mode _
    · exact rangesKept_completeFrame _ s
  · exact .refl s

theorem rangesKept_takeUplinkError (s : State) : RangesKept s s.takeUplinkError := by
  have mode : ∀ m, RangesKept s (s.setMode m) := fun m => .of_eq rfl rfl rfl rfl
  unfold State.takeUplinkError
  split
  · exact .refl s
  · exact mode _
  · exact (mode _).trans (rangesKept_raise _ _)
  · exact .refl s

theorem rangesKept_handleFrame (f : Frame) (s : State) : RangesKept s (s.handleFrame f) := by
  obtain ⟨u, hu, h | ⟨-, q, rest, h⟩⟩ := handleFrame_cases f s <;> rw [h]
  · exact (rangesKept_airActs hu).trans (rangesKept_finishFrame u)
  · exact (rangesKept_airActs hu).trans (.of_eq rfl rfl rfl rfl)

/-! ### The record store -/

theorem rangesKept_loadSettings (read : Option (List Byte)) (s : State) : RangesKept s (s.loadSettings read) := by
  have hreject : ∀ reason, RangesKept s (s.rejectSettings reason) := fun reason => by
    have hdefault : RangesKept s ((s.setSettings .default).onScheduler fun q => { q with pattern := defaultPattern }) :=
      ⟨id, id, fun h => Scheduler.patternWhole_iff.2 ⟨rfl, (Scheduler.patternWhole_iff.1 h).2⟩⟩
    exact hdefault.trans (rangesKept_post _ _ _)
  have haccept : ∀ b, blockFault b = none → RangesKept s (s.acceptSettings b) := fun b hb =>
    ⟨id, id, fun h => Scheduler.patternWhole_iff.2 ⟨length_pattern_of_block hb, (Scheduler.patternWhole_iff.1 h).2⟩⟩
  unfold State.loadSettings
  split
  · exact (hreject 2).then rfl rfl rfl rfl
  · split
    · exact (hreject _).then rfl rfl rfl rfl
    · exact (haccept _ ‹_›).then rfl rfl rfl rfl

theorem rangesKept_loadKit (k : Nat) (read : Option (List Byte)) (s : State) : RangesKept s (s.loadKit k read) := by
  have hput : ∀ kit, RangesKept s (if kit = .damaged then (s.putKit k kit).post .damaged (some k) else s.putKit k kit) :=
    fun kit => by
      have h : RangesKept s (s.putKit k kit) := .of_eq rfl rfl rfl rfl
      split
      · exact h.trans (rangesKept_post _ _ _)
      · exact h
  unfold State.loadKit
  dsimp only
  split
  · exact (hput _).then rfl rfl rfl rfl
  · exact (hput _).then rfl rfl rfl rfl

theorem rangesKept_memoryHolds (t : StoreTarget) (bs : List Byte) (s : State) : RangesKept s (s.memoryHolds t bs) :=
  .of_eq rfl rfl rfl rfl

theorem rangesKept_settleHand (s : State) : RangesKept s s.settleHand :=
  rangesKept_reckonActs (kept_settleHand s) (reckonActs_settleHand s)

theorem rangesKept_recordVerified (k : Nat) (s : State) : RangesKept s (s.recordVerified k) := by
  rw [recordVerified_eq]
  have h : RangesKept s (State.writeVerified k s) := .of_eq rfl rfl rfl rfl
  exact (h.trans (rangesKept_settleHand _)).trans (rangesKept_startNextWrite _)

theorem rangesKept_settingsVerified (s : State) : RangesKept s s.settingsVerified := by
  rw [settingsVerified_eq]
  have h : RangesKept s (State.saveVerified s) := .of_eq rfl rfl rfl rfl
  exact (h.trans (rangesKept_settleHand _)).trans (rangesKept_startNextWrite _)

theorem rangesKept_storeFault (t : StoreTarget) (e : Bool) (s : State) : RangesKept s (s.storeFault t e) := by
  rw [storeFault_eq]
  have hstop : RangesKept s (State.controllerStopped t e s) :=
    ((RangesKept.of_eq rfl rfl rfl rfl : RangesKept s (s.onStore fun c => { c with mode := .stopped t })).trans
      (rangesKept_post _ _ _)).trans (.of_eq rfl rfl rfl rfl)
  have hwalk : ∀ u, RangesKept u (State.walkAborted u) := fun u => by
    unfold State.walkAborted
    split
    · exact (RangesKept.of_eq rfl rfl rfl rfl : RangesKept u (u.setWalk none)).trans (rangesKept_post _ _ _)
    · exact .refl u
  have hhandler : ∀ u, RangesKept u u.withdrawHandler := fun u => by
    unfold State.withdrawHandler
    split
    · exact rangesKept_finishFrame u
    · exact .refl u
  have hhand : ∀ u, RangesKept u (State.handRefused u) := fun u => by
    unfold State.handRefused
    split
    · exact .of_eq rfl rfl rfl rfl
    · exact .refl u
  exact ((hstop.trans (hwalk _)).trans (hhandler _)).trans (hhand _)

theorem rangesKept_attemptFailed (e : Bool) (s : State) : RangesKept s (s.attemptFailed e) := by
  have retry : ∀ m, RangesKept s ((s.onStore fun c => { c with mode := m }).raise .storeRetries) := fun m =>
    (RangesKept.of_eq rfl rfl rfl rfl : RangesKept s (s.onStore _)).trans (rangesKept_raise _ _)
  obtain ⟨k, image, n, -, ⟨-, h⟩ | ⟨-, h⟩⟩ | ⟨image, n, -, ⟨-, h⟩ | ⟨-, h⟩⟩ | h := attemptFailed_cases e s <;> rw [h]
  · exact retry _
  · exact rangesKept_storeFault _ _ s
  · exact retry _
  · exact rangesKept_storeFault _ _ s
  · exact .refl s

theorem rangesKept_attemptReadBack (bs : List Byte) (s : State) : RangesKept s (s.attemptReadBack bs) := by
  unfold State.attemptReadBack
  split
  · unfold State.recordReadBack
    dsimp only
    split
    · exact (rangesKept_memoryHolds _ _ s).trans (rangesKept_recordVerified _ _)
    · exact (rangesKept_memoryHolds _ _ s).trans (rangesKept_attemptFailed _ _)
  · unfold State.settingsReadBack
    dsimp only
    split
    · exact (rangesKept_memoryHolds _ _ s).trans (rangesKept_settingsVerified _)
    · exact (rangesKept_memoryHolds _ _ s).trans (rangesKept_attemptFailed _ _)
  · exact .refl s

theorem rangesKept_attemptInError (left : List Byte) (s : State) : RangesKept s (s.attemptInError left) := by
  unfold State.attemptInError
  split
  · exact (rangesKept_memoryHolds _ _ s).trans (rangesKept_attemptFailed _ _)
  · exact (rangesKept_memoryHolds _ _ s).trans (rangesKept_attemptFailed _ _)
  · exact .refl s

theorem rangesKept_memoryTimeout (left : List Byte) (s : State) : RangesKept s (s.memoryTimeout left) := by
  unfold State.memoryTimeout
  split
  · exact rangesKept_loadSettings ..
  · exact rangesKept_loadKit ..
  · exact rangesKept_attemptInError left s

/-! ### The grace walk -/

theorem rangesKept_examineNext (s : State) : RangesKept s s.examineNext := by
  unfold State.examineNext
  split
  · split
    · exact .refl s
    · split
      · exact .of_eq rfl rfl rfl rfl
      · exact rangesKept_reckonActs (kept_finishIndex ..) (reckonActs_finishIndex ..)
  · exact .refl s

/-! ### Every command and event -/

/-- An event that takes effect under a condition keeps the ranges if its effect does. -/
theorem rangesKept_if {s t : State} (c : Bool) (h : RangesKept s t) : RangesKept s (if c then t else s) := by
  cases c
  · exact .refl s
  · exact h

theorem rangesKept_exec (c : Instr) (s : State) : ∃ t, exec c s = .next t ∧ RangesKept s t := by
  cases c using Instr.byFrame with
  | command k tag p => exact ⟨_, exec_commandOf k tag p s, rangesKept_receiveFrame k tag p s⟩
  | powerUp speed => exact ⟨_, rfl, ⟨fun _ => rfl, fun _ => rfl, fun _ => rfl⟩⟩
  | resetPinAsserted tear => exact ⟨_, rfl, ⟨fun _ => rfl, fun _ => rfl, fun _ => rfl⟩⟩
  | powerLoss tear => exact ⟨_, rfl, ⟨fun _ => rfl, fun _ => rfl, fun _ => rfl⟩⟩
  | resetPinDeasserted speed =>
    refine ⟨_, rfl, rangesKept_if _ ?_⟩
    split
    · exact (RangesKept.of_eq rfl rfl rfl rfl : RangesKept s (s.setResetPin false)).trans
        (rangesKept_enterLoading speed [] _)
    · exact .of_eq rfl rfl rfl rfl
  | referenceClockStops => exact ⟨_, rfl, .of_eq rfl rfl rfl rfl⟩
  | referenceClockReturns => exact ⟨_, rfl, .of_eq rfl rfl rfl rfl⟩
  | slotStart => exact ⟨_, rfl, rangesKept_if _ (rangesKept_takeSlotStart s)⟩
  | downlinkWindowEnd => exact ⟨_, rfl, rangesKept_if _ (rangesKept_takeDownlinkWindowEnd s)⟩
  | replySubWindowStart k =>
    have hclock := (rangesKept_closeSubWindow s).trans (rangesKept_onClock (f := fun c => { c with timer := .reply k }) id)
    exact ⟨_, rfl, rangesKept_if _ (hclock.then rfl rfl rfl rfl)⟩
  | replyWindowEnd => exact ⟨_, rfl, rangesKept_if _ (rangesKept_takeReplyWindowEnd s)⟩
  | hourTick => exact ⟨_, rfl, rangesKept_if _ (rangesKept_onClock Clock.inRange_atHourTick)⟩
  | preparationComplete =>
    refine ⟨_, rfl, rangesKept_if _ ?_⟩
    unfold State.takePreparationComplete
    split
    · exact .of_eq rfl rfl rfl rfl
    · exact .refl s
  | burstComplete => exact ⟨_, rfl, rangesKept_if _ (.of_eq rfl rfl rfl rfl)⟩
  | uplinkFrameComplete b =>
    refine ⟨_, rfl, ?_⟩
    split
    · exact rangesKept_if _ (rangesKept_completeFrame _ s)
    · exact .refl s
  | uplinkByteError => exact ⟨_, rfl, rangesKept_if _ (rangesKept_takeUplinkError s)⟩
  | uplinkByteArrival b => exact ⟨_, rfl, rangesKept_if _ (rangesKept_takeUplinkByte b s)⟩
  | receiptHandle =>
    refine ⟨_, rfl, ?_⟩
    split
    · exact rangesKept_if _ (rangesKept_handleFrame _ s)
    · exact .refl s
  | moveCompletion =>
    refine ⟨_, rfl, ?_⟩
    split
    · exact rangesKept_if _ (rangesKept_tryAccept s _)
    · exact .refl s
  | withdrawalOnTamper =>
    refine ⟨_, rfl, ?_⟩
    split
    · exact rangesKept_if _ (rangesKept_tryAccept s _)
    · exact .refl s
  | graceExamine => exact ⟨_, rfl, rangesKept_if _ (rangesKept_examineNext s)⟩
  | graceReckoning => exact ⟨_, rfl, rangesKept_if _ (rangesKept_tryAccept s _)⟩
  | commandReckoning => exact ⟨_, rfl, rangesKept_if _ (rangesKept_tryAccept s _)⟩
  | storeAttemptComplete e =>
    refine ⟨_, rfl, rangesKept_if _ ?_⟩
    cases e with
    | good => exact rangesKept_attemptReadBack _ s
    | readBack bs => exact rangesKept_attemptReadBack bs s
    | inError left => exact rangesKept_attemptInError left s
  | storeMemoryTimeout left => exact ⟨_, rfl, rangesKept_if _ (rangesKept_memoryTimeout left s)⟩
  | settingsBlockRead r =>
    refine ⟨_, rfl, ?_⟩
    split
    · exact rangesKept_if _ (rangesKept_loadSettings _ s)
    · exact .refl s
  | kitRecordRead r =>
    refine ⟨_, rfl, ?_⟩
    split
    · exact rangesKept_if _ (rangesKept_loadKit _ _ s)
    · exact .refl s
  | closingDrainComplete speed => exact ⟨_, rfl, rangesKept_if _ (rangesKept_enterLoading ..)⟩
  | replySent speed =>
    refine ⟨_, rfl, rangesKept_if _ ?_⟩
    unfold State.takeReplySent
    split
    · exact .refl s
    · split
      · exact rangesKept_enterLoading ..
      · exact .of_eq rfl rfl rfl rfl
  | notePulseEnd => exact ⟨_, rfl, rangesKept_if _ (.of_eq rfl rfl rfl rfl)⟩
  | linkFrameReject r => exact ⟨_, rfl, rangesKept_if _ (rangesKept_rejectFrame r s)⟩
  | linkGapExpiry => exact ⟨_, rfl, rangesKept_if _ (rangesKept_rejectFrame .gap s)⟩
  | unknownKindFrame kind tag => exact ⟨_, rfl, rangesKept_receiveUnknown kind tag s⟩
  | linkByteArrival b => exact ⟨_, rfl, rangesKept_if _ (rangesKept_takeLinkByte b s)⟩

/-- A step carries out the command at the front of the queue on the part with the queue's rest, or idles. -/
theorem step_cases {s t : State} (h : step s = .next t) :
    (s.pending = [] ∧ t = s) ∨ ∃ c rest, s.pending = c :: rest ∧ exec c { s with pending := rest } = .next t := by
  unfold step at h
  split at h
  · cases h; exact .inl ⟨‹_›, rfl⟩
  · exact .inr ⟨_, _, ‹_›, h⟩

/-- Settles O56: each command and event is made of acts that keep the ranges. -/
theorem everyStepKeepsTheCountersInRange : Obligations.EveryStepKeepsTheCountersInRange := by
  intro s t h
  obtain ⟨-, rfl⟩ | ⟨c, rest, -, he⟩ := step_cases h
  · exact ⟨id, id, id⟩
  · obtain ⟨u, hu, hk⟩ := rangesKept_exec c { s with pending := rest }
    cases he.symm.trans hu
    exact ⟨hk.clock, hk.counters, hk.pattern⟩

end Sys2Proof.Proofs
end

section
/-! PROOFS. The store controller's state fits the operating state after every command, and the operating state changes only by
the commands and events the manual names (R8 to R13, R147, R151, R154, R155). -/

namespace Sys2Proof.Proofs

open Sys2Proof Sys2Proof.Machine Sys2Proof.Laws

/-! ### Acts that leave what `storeFits` speaks of -/

/-- The operating state, the command in hand and what the controller works on are as they were. -/
structure StoreQuiet (s t : State) : Prop where
  op    : t.link.op = s.link.op
  hand  : t.link.hand = s.link.hand
  mode  : t.store.mode = s.store.mode
  queue : t.store.queue = s.store.queue
  owed  : t.store.owed = s.store.owed

/-- So are the walk and the receipt handler. -/
structure Quiet (s t : State) : Prop extends StoreQuiet s t where
  walk    : t.walk = s.walk
  handler : t.handler = s.handler

theorem StoreQuiet.refl (s : State) : StoreQuiet s s := ⟨rfl, rfl, rfl, rfl, rfl⟩

theorem Quiet.refl (s : State) : Quiet s s := ⟨.refl s, rfl, rfl⟩

theorem StoreQuiet.trans {s t u : State} (h : StoreQuiet s t) (h' : StoreQuiet t u) : StoreQuiet s u :=
  ⟨h'.op.trans h.op, h'.hand.trans h.hand, h'.mode.trans h.mode, h'.queue.trans h.queue, h'.owed.trans h.owed⟩

theorem Quiet.trans {s t u : State} (h : Quiet s t) (h' : Quiet t u) : Quiet s u :=
  ⟨h.toStoreQuiet.trans h'.toStoreQuiet, h'.walk.trans h.walk, h'.handler.trans h.handler⟩

theorem Quiet.storeFits {s t : State} (h : Quiet s t) (hs : s.storeFits) : t.storeFits := by
  simp only [State.storeFits, h.op, h.hand, h.mode, h.queue, h.owed, h.walk, h.handler]
  exact hs

/-- Outside LOADING the walk and the receipt handler may be at anything. -/
theorem StoreQuiet.storeFits {s t : State} (h : StoreQuiet s t) (ho : s.link.op ≠ .loading) (hs : s.storeFits) :
    t.storeFits := by
  obtain ⟨hm, hw, -⟩ := hs
  simp only [State.storeFits, h.op, h.hand, h.mode, h.queue, h.owed]
  exact ⟨hm, hw, fun hl => absurd hl ho⟩

theorem quiet_airActs {s t : State} (h : AirActs s t) : Quiet s t :=
  ⟨⟨h.kept.op, h.kept.hand, by rw [h.kept.store], by rw [h.kept.store], by rw [h.kept.store]⟩, h.kept.walk, h.kept.handler⟩

/-- A change of the link that leaves the operating state and the command in hand. -/
theorem quiet_onLink (s : State) (f : Link → Link) (ho : (f s.link).op = s.link.op) (hh : (f s.link).hand = s.link.hand) :
    Quiet s (s.onLink f) := ⟨⟨ho, hh, rfl, rfl, rfl⟩, rfl, rfl⟩

theorem quiet_post (s : State) (n : NoticeKind) (k : Option Nat) : Quiet s (s.post n k) := quiet_airActs (.single (.post s n k))

theorem quiet_waiting (s : State) : Quiet s (State.waiting s) := quiet_onLink s _ rfl rfl

theorem quiet_answerUntaken (r : Reply) (s : State) : Quiet s (s.answerUntaken r) := by
  unfold State.answerUntaken
  split
  · exact quiet_onLink s _ rfl rfl
  · exact quiet_airActs (airActs_raise s _)

/-- With no command in hand, an answer leaves none. -/
theorem quiet_answerNow {s : State} (hh : s.link.hand = none) (k : CmdKind) (tag : Byte) (p : List Byte) (st : Status)
    (c : List Byte) : Quiet s (s.answerNow k tag p st c) := ⟨⟨rfl, hh.symm, rfl, rfl, rfl⟩, rfl, rfl⟩

theorem storeQuiet_finishFrame (s : State) : StoreQuiet s s.finishFrame :=
  (⟨rfl, rfl, rfl, rfl, rfl⟩ : StoreQuiet s (State.frameDropped s)).trans
    (quiet_airActs (airActs_finishFrame s)).toStoreQuiet

theorem storeQuiet_endWalk (s : State) (w : Walk) (a : Bool) : StoreQuiet s (s.endWalk w a) :=
  (⟨rfl, rfl, rfl, rfl, rfl⟩ : StoreQuiet s (s.setWalk none)).trans (quiet_post _ _ _).toStoreQuiet

theorem storeQuiet_finishIndex (s : State) (w : Walk) (c : Bool) : StoreQuiet s (s.finishIndex w c) := by
  rcases finishIndex_cases s w c with ⟨-, h⟩ | ⟨-, -, h⟩ | ⟨-, -, h⟩ <;> rw [h]
  · exact storeQuiet_endWalk ..
  · exact storeQuiet_endWalk ..
  · exact ⟨rfl, rfl, rfl, rfl, rfl⟩

theorem storeQuiet_abortWalk (s : State) : StoreQuiet s s.abortWalk := by
  unfold State.abortWalk
  split
  · exact .refl s
  · split
    · exact ⟨rfl, rfl, rfl, rfl, rfl⟩
    · exact storeQuiet_endWalk ..

theorem storeQuiet_handleFrame (f : Frame) (s : State) : StoreQuiet s (s.handleFrame f) := by
  obtain ⟨u, hu, h | ⟨-, q, rest, h⟩⟩ := handleFrame_cases f s <;> rw [h]
  · exact (quiet_airActs hu).toStoreQuiet.trans (storeQuiet_finishFrame u)
  · exact (quiet_airActs hu).toStoreQuiet.trans ⟨rfl, rfl, rfl, rfl, rfl⟩

/-! ### The start of writes (R147, R152) -/

/-- A settings write is owed only for the SAVE SETTINGS in hand, and not in CLOSING (R152, R155). -/
def State.owedFits (s : State) : Prop :=
  s.store.owed = true → s.link.op ≠ .faulted →
    (∃ h, s.link.hand = some h ∧ h.settings = true ∧ h.reckoned = true) ∧ s.link.op ≠ .closing

/-- The controller fits the operating state, but that it may be IDLE with something to write: the state between a request or
a verified write and the start of the next write. -/
def State.fitsToWrite (s : State) : Prop :=
  (match s.store.mode with
    | .readingSettings | .readingKit _ => False
    | .idle | .writing .. => s.link.op = .standby ∨ s.link.op = .onAir ∨ s.link.op = .closing
    | .saving .. => (s.link.op = .standby ∨ s.link.op = .onAir) ∧ s.store.owed = true
    | .stopped _ => s.link.op = .faulted) ∧ State.owedFits s

theorem fitsToWrite_of_storeFits {s : State} (hs : s.storeFits) (ho : s.link.op ≠ .loading) : State.fitsToWrite s := by
  obtain ⟨hm, hw, -⟩ := hs
  refine ⟨?_, hw⟩
  revert hm
  cases s.store.mode with
  | readingSettings => exact ho
  | readingKit k => exact ho
  | idle => exact fun h => h.1
  | writing => exact id
  | saving => exact id
  | stopped => exact id

theorem op_ne_loading_of_fitsToWrite {s : State} (hs : State.fitsToWrite s) : s.link.op ≠ .loading := by
  obtain ⟨hm, -⟩ := hs
  intro hl
  cases h : s.store.mode <;> simp [h, hl] at hm

/-- Reckonings leave it so. -/
theorem fitsToWrite_reckonActs {s t : State} (hs : State.fitsToWrite s) (hop : t.link.op = s.link.op) (h : ReckonActs s t) :
    State.fitsToWrite t := by
  obtain ⟨hm, hw⟩ := hs
  have k := h.kept
  simp only [State.fitsToWrite, State.owedFits, hop, k.mode, k.owed]
  refine ⟨hm, fun ho hf => ?_⟩
  obtain ⟨⟨c, hc, hset, hr⟩, hcl⟩ := hw ho hf
  exact ⟨⟨c, k.hand c hc hr hset, hset, hr⟩, hcl⟩

/-- What is left IDLE with nothing to write, or busy, fits. -/
theorem storeFits_of_fitsToWrite {s : State} (hs : State.fitsToWrite s)
    (hi : s.store.mode = .idle → s.store.owed = false ∧ s.store.queue = []) : s.storeFits := by
  have hl := op_ne_loading_of_fitsToWrite hs
  obtain ⟨hm, hw⟩ := hs
  refine ⟨?_, hw, fun h => absurd h hl⟩
  revert hm
  cases h : s.store.mode with
  | readingSettings => exact False.elim
  | readingKit k => exact False.elim
  | idle => exact fun hm => ⟨hm, (hi h).2, (hi h).1⟩
  | writing => exact id
  | saving => exact id
  | stopped => exact id

theorem storeFits_startNextWrite {s : State} (hs : State.fitsToWrite s) : s.startNextWrite.storeFits := by
  rcases startNextWrite_cases s with ⟨h, hi⟩ | ⟨hm, ho, h⟩ | ⟨k, rest, hm, ho, -, h⟩
  · rw [h]
    exact storeFits_of_fitsToWrite hs fun hm => hi.resolve_left (not_not_intro hm)
  · obtain ⟨hop, hw⟩ := hs
    simp only [hm] at hop
    have hne : s.link.op ≠ .faulted := by rintro hf; simp [hf] at hop
    refine storeFits_of_fitsToWrite ⟨?_, ?_⟩ ?_ <;> rw [h]
    · exact ⟨by simpa [(hw ho hne).2] using hop, ho⟩
    · exact hw
    · exact fun h => StoreMode.noConfusion h
  · obtain ⟨hop, -⟩ := hs
    simp only [hm] at hop
    obtain ⟨u, hu, he⟩ := startRecordWrite_acts k rest s
    have hop' := (kept_startRecordWrite k rest s).op
    have how : (s.startRecordWrite k rest).store.owed = false := by rw [he]; exact hu.kept.owed.trans ho
    have hmode : ∃ image, (s.startRecordWrite k rest).store.mode = .writing k image 1 := by rw [he]; exact ⟨_, rfl⟩
    obtain ⟨image, hmode⟩ := hmode
    rw [h]
    refine storeFits_of_fitsToWrite ⟨?_, fun h => ?_⟩ fun h => ?_
    · rw [hmode, hop']; exact hop
    · rw [how] at h; cases h
    · rw [hmode] at h; cases h

/-- A request made, accepted or left waiting, leaves the controller fitting; in LOADING nobody asks. -/
theorem storeFits_tryAccept {s : State} (hs : s.storeFits) (r : Requester) : (s.tryAccept r).storeFits := by
  rcases tryAccept_cases s r with ⟨h, -⟩ | ⟨k, hw, hk, h⟩ <;> rw [h]
  · exact hs
  · by_cases ho : s.link.op = .loading
    · obtain ⟨-, -, hl⟩ := hs
      obtain ⟨-, -, hwalk, hhand, hhandler⟩ := hl ho
      cases r <;> simp [State.wants, hwalk, hhand, hhandler] at hw
    · have hacc := reckonActs_serveAccepted (s := s) (r := r) fun j hj => by rw [hw] at hj; cases hj; exact hk
      exact storeFits_startNextWrite
        (fitsToWrite_reckonActs (fitsToWrite_of_storeFits hs ho) (kept_serveAccepted s r).op hacc)

/-! ### Taken commands -/

/-- With no command in hand no settings write is owed, but in FAULTED. -/
theorem owed_of_noHand {s : State} (hs : s.storeFits) (hh : s.link.hand = none) (hf : s.link.op ≠ .faulted) :
    s.store.owed = false := by
  obtain ⟨-, hw, -⟩ := hs
  cases ho : s.store.owed with
  | false => rfl
  | true =>
    obtain ⟨⟨h, hc, -⟩, -⟩ := hw ho hf
    rw [hh] at hc; cases hc

/-- With no settings write owed the part may go between STANDBY, ON AIR and CLOSING, whatever command it takes in hand. -/
theorem storeFits_of_moved {s t : State} (hs : s.storeFits) (hh : s.link.hand = none)
    (hop : s.link.op = .standby ∨ s.link.op = .onAir) (hst : t.store = s.store)
    (hop' : t.link.op = .standby ∨ t.link.op = .onAir ∨ t.link.op = .closing) : t.storeFits := by
  have hl : s.link.op ≠ .loading := by rintro h; simp [h] at hop
  have hf : s.link.op ≠ .faulted := by rintro h; simp [h] at hop
  have ho := owed_of_noHand hs hh hf
  obtain ⟨hm, -⟩ := hs
  refine ⟨?_, fun h => ?_, fun h => by simp [h] at hop'⟩
  · rw [hst]
    revert hm
    cases s.store.mode with
    | readingSettings => exact fun h => absurd h hl
    | readingKit k => exact fun h => absurd h hl
    | idle => exact fun h => ⟨hop', h.2⟩
    | writing => exact fun _ => hop'
    | saving => exact fun h => by rw [ho] at h; cases h.2
    | stopped => exact fun h => absurd h hf
  · rw [hst, ho] at h; cases h

/-- The changes of operating state that commands make (R9 to R11). -/
def frameChanges (k : CmdKind) (before after : OpState) : Prop :=
  match k with
  | .start => before = .standby ∧ after = .onAir
  | .stop => before = .onAir ∧ after = .standby
  | .reset => (before = .standby ∨ before = .onAir) ∧ after = .closing
  | _ => False

theorem changesOp_of_frameChanges {k : CmdKind} {before after : OpState} (h : frameChanges k before after) :
    (∀ tag p, changesOp (commandOf k tag p) before after) ∧ ∀ b, changesOp (.linkByteArrival b) before after := by
  cases k with
  | start => obtain ⟨rfl, rfl⟩ := h; exact ⟨fun _ _ => trivial, fun _ => trivial⟩
  | stop => obtain ⟨rfl, rfl⟩ := h; exact ⟨fun _ _ => trivial, fun _ => trivial⟩
  | reset => obtain ⟨rfl | rfl, rfl⟩ := h <;> exact ⟨fun _ _ => trivial, fun _ => trivial⟩
  | _ => exact h.elim

/-- A frame leaves the controller fitting and changes the operating state as its command may. -/
def FrameFits (k : CmdKind) (s t : State) : Prop :=
  t.storeFits ∧ (t.link.op = s.link.op ∨ frameChanges k s.link.op t.link.op)

theorem Quiet.frameFits {k : CmdKind} {s t : State} (h : Quiet s t) (hs : s.storeFits) : FrameFits k s t :=
  ⟨h.storeFits hs, .inl h.op⟩

/-- A command admitted in STANDBY and ON AIR that makes a request of a kit. -/
theorem frameFits_requestRule {s : State} (hs : s.storeFits) (hh : s.link.hand = none)
    (hop : s.link.op = .standby ∨ s.link.op = .onAir) (k : CmdKind) (tag : Byte) (p : List Byte) :
    FrameFits k s (s.requestRule k tag p) := by
  unfold State.requestRule
  split
  · exact (quiet_answerNow hh ..).frameFits hs
  · have hset : (s.setHand (newHand k tag p)).storeFits :=
      storeFits_of_moved hs hh hop rfl (or_assoc.1 (.inl hop))
    exact ⟨storeFits_tryAccept hset _, .inl (kept_tryAccept _ _).op⟩

theorem frameFits_saveSettingsRule {s : State} (hs : s.storeFits) (hop : s.link.op = .standby ∨ s.link.op = .onAir)
    (tag : Byte) (p : List Byte) : FrameFits .saveSettings s (saveSettingsRule tag p s) := by
  have hl : s.link.op ≠ .loading := by rintro h; simp [h] at hop
  have hc : s.link.op ≠ .closing := by rintro h; simp [h] at hop
  refine ⟨storeFits_startNextWrite ⟨?_, fun _ _ => ⟨⟨_, rfl, rfl, rfl⟩, hc⟩⟩, .inl (kept_startNextWrite _).op⟩
  obtain ⟨hm, -⟩ := fitsToWrite_of_storeFits hs hl
  show match s.store.mode with
    | .readingSettings | .readingKit _ => False
    | .idle | .writing .. => s.link.op = .standby ∨ s.link.op = .onAir ∨ s.link.op = .closing
    | .saving .. => (s.link.op = .standby ∨ s.link.op = .onAir) ∧ true = true
    | .stopped _ => s.link.op = .faulted
  revert hm
  cases s.store.mode with
  | saving => exact fun h => ⟨h.1, rfl⟩
  | _ => exact id

theorem frameFits_startRule {s : State} (hs : s.storeFits) (hh : s.link.hand = none)
    (hop : s.link.op = .standby ∨ s.link.op = .onAir) (tag : Byte) (p : List Byte) :
    FrameFits .start s (startRule tag p s) := by
  unfold startRule
  split
  · exact (quiet_answerNow hh ..).frameFits hs
  · rename_i hon
    split
    · exact (quiet_answerNow hh ..).frameFits hs
    · have hsame : ∀ u : State, u.beginPreparation.store = u.store ∧ u.beginPreparation.link = u.link := fun u => by
        rcases beginPreparation_cases u with ⟨-, -, h⟩ | ⟨-, h⟩ <;> rw [h] <;> exact ⟨rfl, rfl⟩
      refine ⟨storeFits_of_moved hs hh hop (hsame _).1 ?_, .inr ⟨hop.resolve_right hon, ?_⟩⟩ <;> rw [(hsame _).2]
      · exact .inr (.inl rfl)
      · rfl

theorem frameFits_stopRule {s : State} (hs : s.storeFits) (hh : s.link.hand = none)
    (hop : s.link.op = .standby ∨ s.link.op = .onAir) (tag : Byte) (p : List Byte) :
    FrameFits .stop s (stopRule tag p s) := by
  unfold stopRule
  split
  · exact (quiet_answerNow hh ..).frameFits hs
  · rename_i hon
    exact ⟨storeFits_of_moved hs hh hop rfl (.inl rfl), .inr ⟨hop.resolve_left hon, rfl⟩⟩

theorem frameFits_resetRule {s : State} (hs : s.storeFits) (hh : s.link.hand = none)
    (hop : s.link.op = .standby ∨ s.link.op = .onAir ∨ s.link.op = .faulted) (tag : Byte) (p : List Byte) :
    FrameFits .reset s (resetRule tag p s) := by
  unfold resetRule
  split
  · exact Quiet.frameFits ⟨⟨rfl, hh.symm, rfl, rfl, rfl⟩, rfl, rfl⟩ hs
  · rename_i hf
    have hop : s.link.op = .standby ∨ s.link.op = .onAir := by simpa [hf] using hop
    have hclosed : ((s.answerNow .reset tag p .ok []).setOp .closing).discardPreparation.storeFits :=
      storeFits_of_moved hs hh hop rfl (.inr (.inr rfl))
    have hq := storeQuiet_abortWalk ((s.answerNow .reset tag p .ok []).setOp .closing).discardPreparation
    exact ⟨hq.storeFits OpState.noConfusion hclosed, .inr ⟨hop, hq.op⟩⟩

/-- Each rule, taken with no command in hand in a state that admits it. -/
theorem frameFits_ruleOf {k : CmdKind} {s : State} (hs : s.storeFits) (hh : s.link.hand = none)
    (ha : admits k s.link.op = true) (tag : Byte) (p : List Byte) : FrameFits k s (ruleOf k tag p s) := by
  have answer : ∀ k' st c, FrameFits k s (s.answerNow k' tag p st c) := fun k' st c =>
    (quiet_answerNow hh k' tag p st c).frameFits hs
  have atWork : (s.link.op == .standby || s.link.op == .onAir) = true → s.link.op = .standby ∨ s.link.op = .onAir := by
    simp
  cases k with
  | identify => exact answer _ _ _
  | status => exact answer _ _ _
  | configure =>
    show FrameFits _ s (configureRule tag p s)
    unfold configureRule
    split
    · exact answer _ _ _
    · exact Quiet.frameFits ⟨⟨rfl, hh.symm, rfl, rfl, rfl⟩, rfl, rfl⟩ hs
  | loadPattern =>
    show FrameFits _ s (loadPatternRule tag p s)
    unfold loadPatternRule
    split
    · exact answer _ _ _
    · exact Quiet.frameFits ⟨⟨rfl, hh.symm, rfl, rfl, rfl⟩, rfl, rfl⟩ hs
  | saveSettings => exact frameFits_saveSettingsRule hs (atWork ha) tag p
  | setClock =>
    show FrameFits _ s (setClockRule tag p s)
    unfold setClockRule
    split
    · exact answer _ _ _
    · split
      · exact answer _ _ _
      · exact Quiet.frameFits ⟨⟨rfl, hh.symm, rfl, rfl, rfl⟩, rfl, rfl⟩ hs
  | start => exact frameFits_startRule hs hh (atWork ha) tag p
  | stop => exact frameFits_stopRule hs hh (atWork ha) tag p
  | reset => exact frameFits_resetRule hs hh (by simpa [admits, or_assoc] using ha) tag p
  | enrolBlock =>
    show FrameFits _ s (enrolBlockRule tag p s)
    unfold enrolBlockRule
    split
    · exact answer _ _ _
    · exact frameFits_requestRule hs hh (atWork ha) _ tag p
  | readKit =>
    show FrameFits _ s (readKitRule tag p s)
    unfold readKitRule
    dsimp only
    split <;> exact answer _ _ _
  | grace =>
    show FrameFits _ s (graceRule tag p s)
    unfold graceRule
    split
    · exact answer _ _ _
    · split
      · exact answer _ _ _
      · have hl : s.link.op ≠ .loading := by rcases atWork ha with h | h <;> simp [h]
        exact ⟨StoreQuiet.storeFits (s := s) ⟨rfl, hh.symm, rfl, rfl, rfl⟩ hl hs, .inl rfl⟩
  | graceAbort =>
    show FrameFits _ s (graceAbortRule tag p s)
    unfold graceAbortRule
    split
    · exact answer _ _ _
    · have hl : s.link.op ≠ .loading := by rcases atWork ha with h | h <;> simp [h]
      have hq := (quiet_answerNow hh .graceAbort tag p .ok []).toStoreQuiet.trans (storeQuiet_abortWalk _)
      exact ⟨hq.storeFits hl hs, .inl hq.op⟩
  | fetchNotices => exact Quiet.frameFits ⟨⟨rfl, hh.symm, rfl, rfl, rfl⟩, rfl, rfl⟩ hs
  | counters => exact Quiet.frameFits ⟨⟨rfl, hh.symm, rfl, rfl, rfl⟩, rfl, rfl⟩ hs
  | enrol => exact frameFits_requestRule hs hh (atWork ha) _ tag p
  | retire => exact frameFits_requestRule hs hh (atWork ha) _ tag p
  | restore => exact frameFits_requestRule hs hh (atWork ha) _ tag p
  | grant => exact frameFits_requestRule hs hh (atWork ha) _ tag p
  | setHorizon => exact frameFits_requestRule hs hh (atWork ha) _ tag p
  | withdraw => exact frameFits_requestRule hs hh (atWork ha) _ tag p
  | resume => exact frameFits_requestRule hs hh (atWork ha) _ tag p
  | move => exact frameFits_requestRule hs hh (atWork ha) _ tag p

/-- A taken command is admitted by the operating state (R14). -/
theorem admits_of_ready {k : CmdKind} {tag : Byte} {p : List Byte} {s : State} (h : s.ready k tag p = true) :
    admits k s.link.op = true := by
  simp only [State.ready, Bool.and_eq_true] at h
  exact h.1.2

theorem frameFits_receiveFrame {s : State} (hs : s.storeFits) (k : CmdKind) (tag : Byte) (p : List Byte) :
    FrameFits k s (s.receiveFrame k tag p (ruleOf k)) := by
  have hq := quiet_waiting s
  cases hh : s.link.hand with
  | some c =>
    by_cases hl : s.live = true
    · rw [receiveFrame_busy hl (by rw [hh]; rfl)]
      exact (hq.trans (quiet_answerUntaken _ _)).frameFits hs
    · simp only [State.receiveFrame, hl, Bool.false_eq_true, if_false]
      exact (Quiet.refl s).frameFits hs
  | none =>
    obtain ⟨-, h⟩ | ⟨-, ⟨r, h⟩ | h | ⟨-, st, c, h⟩ | ⟨hr, h⟩⟩ := receiveFrame_cases k tag p (ruleOf k) s <;> rw [h]
    · exact (Quiet.refl s).frameFits hs
    · exact (hq.trans (quiet_answerUntaken r _)).frameFits hs
    · exact (hq.trans (quiet_airActs (airActs_raise _ _))).frameFits hs
    · exact (hq.trans (quiet_answerNow (s := State.waiting s) hh k tag p st c)).frameFits hs
    · exact frameFits_ruleOf (hq.storeFits hs) hh (admits_of_ready hr) tag p

/-! ### The store controller's events -/

/-- A command or event leaves the controller fitting and changes the operating state only as the manual names. -/
def Fits (c : Instr) (s t : State) : Prop :=
  t.storeFits ∧ (t.link.op = s.link.op ∨ changesOp c s.link.op t.link.op)

theorem Quiet.fits {c : Instr} {s t : State} (h : Quiet s t) (hs : s.storeFits) : Fits c s t := ⟨h.storeFits hs, .inl h.op⟩

theorem StoreQuiet.fits {c : Instr} {s t : State} (h : StoreQuiet s t) (ho : s.link.op ≠ .loading) (hs : s.storeFits) :
    Fits c s t := ⟨h.storeFits ho hs, .inl h.op⟩

/-- An event that does not take effect changes nothing. -/
theorem fits_if {i : Instr} {s t : State} (hs : s.storeFits) (c : Bool) (h : c = true → Fits i s t) :
    Fits i s (if c then t else s) := by
  cases c
  · exact (Quiet.refl s).fits hs
  · exact h rfl

theorem storeFits_enterLoading (speed : Bool) (sending : List Reply) (s : State) :
    (s.enterLoading speed sending).storeFits := ⟨rfl, nofun, fun _ => ⟨rfl, rfl, rfl, rfl, rfl⟩⟩

theorem storeFits_blank (s : State) : s.blank.storeFits := ⟨rfl, nofun, fun _ => ⟨rfl, rfl, rfl, rfl, rfl⟩⟩

theorem quiet_memoryHolds (t : StoreTarget) (bs : List Byte) (s : State) : Quiet s (s.memoryHolds t bs) :=
  ⟨⟨rfl, rfl, rfl, rfl, rfl⟩, rfl, rfl⟩

/-- What a withdrawn handler's request leaves: the frame in hand is finished, or nothing waited (R125). -/
theorem withdrawHandler_cases (s : State) :
    (s.handler = .idle ∧ s.withdrawHandler = s) ∨ (s.handler ≠ .idle ∧ s.withdrawHandler = s.finishFrame) := by
  unfold State.withdrawHandler
  cases s.handler with
  | idle => exact .inl ⟨rfl, rfl⟩
  | stalled q second => exact .inr ⟨Handler.noConfusion, rfl⟩

/-- The acts of a store fault after the controller stopped leave the store and the operating state (R151). -/
theorem storeFault_store (t : StoreTarget) (e : Bool) (s : State) :
    (s.storeFault t e).store = { s.store with mode := .stopped t } ∧ (s.storeFault t e).link.op = .faulted := by
  rw [storeFault_eq]
  have hstop : (State.controllerStopped t e s).store = { s.store with mode := .stopped t } ∧
      (State.controllerStopped t e s).link.op = .faulted := ⟨rfl, rfl⟩
  have hwalk : ∀ u : State, (State.walkAborted u).store = u.store ∧ (State.walkAborted u).link.op = u.link.op := fun u => by
    unfold State.walkAborted
    split
    · exact ⟨rfl, by simp [State.endWalk]⟩
    · exact ⟨rfl, rfl⟩
  have hhandler : ∀ u : State, u.withdrawHandler.store = u.store ∧ u.withdrawHandler.link.op = u.link.op := fun u => by
    rcases withdrawHandler_cases u with ⟨-, h⟩ | ⟨-, h⟩ <;> rw [h]
    · exact ⟨rfl, rfl⟩
    · have k := (airActs_finishFrame u).kept
      exact ⟨k.store, k.op⟩
  have hhand : ∀ u : State, (State.handRefused u).store = u.store ∧ (State.handRefused u).link.op = u.link.op := fun u => by
    unfold State.handRefused
    split <;> exact ⟨rfl, rfl⟩
  rw [(hhand _).1, (hhand _).2, (hhandler _).1, (hhandler _).2, (hwalk _).1, (hwalk _).2]
  exact hstop

theorem storeFits_storeFault (t : StoreTarget) (e : Bool) (s : State) : (s.storeFault t e).storeFits := by
  obtain ⟨hst, hop⟩ := storeFault_store t e s
  simp only [State.storeFits, hst, hop]
  exact ⟨trivial, fun _ h => absurd rfl h, OpState.noConfusion⟩

/-- The operating states in which a write is in progress. -/
theorem op_of_writing {s : State} {k : Nat} {image : List Byte} {n : Nat} (hs : s.storeFits)
    (hm : s.store.mode = .writing k image n) : s.link.op = .standby ∨ s.link.op = .onAir ∨ s.link.op = .closing := by
  obtain ⟨h, -⟩ := hs
  simpa [hm] using h

theorem op_of_saving {s : State} {image : List Byte} {n : Nat} (hs : s.storeFits) (hm : s.store.mode = .saving image n) :
    (s.link.op = .standby ∨ s.link.op = .onAir) ∧ s.store.owed = true := by
  obtain ⟨h, -⟩ := hs
  simpa [hm] using h

theorem op_of_reading {s : State} (hs : s.storeFits)
    (hm : s.store.mode = .readingSettings ∨ ∃ k, s.store.mode = .readingKit k) : s.link.op = .loading := by
  obtain ⟨h, -⟩ := hs
  rcases hm with hm | ⟨k, hm⟩ <;> simpa [hm] using h

/-- A further attempt of a write leaves the controller fitting. -/
theorem storeFits_retry {s : State} (hs : s.storeFits) (m : StoreMode)
    (hm : (∃ k image n, s.store.mode = .writing k image n ∧ m = .writing k image (n + 1)) ∨
      ∃ image n, s.store.mode = .saving image n ∧ m = .saving image (n + 1)) :
    ((s.onStore fun c => { c with mode := m }).raise .storeRetries).storeFits := by
  obtain ⟨k, image, n, hm, rfl⟩ | ⟨image, n, hm, rfl⟩ := hm
  · have hop := op_of_writing hs hm
    obtain ⟨-, hw, hl⟩ := hs
    exact ⟨hop, hw, hl⟩
  · have hop := op_of_saving hs hm
    obtain ⟨-, hw, hl⟩ := hs
    exact ⟨hop, hw, hl⟩

/-- The events that can end an attempt of a write. -/
def endsAttempt (c : Instr) : Prop := (∃ e, c = .storeAttemptComplete e) ∨ ∃ left, c = .storeMemoryTimeout left

theorem changesOp_faulted {c : Instr} (hc : endsAttempt c) {before : OpState}
    (hb : before = .standby ∨ before = .onAir ∨ before = .closing) : changesOp c before .faulted := by
  obtain ⟨e, rfl⟩ | ⟨left, rfl⟩ := hc <;> rcases hb with rfl | rfl | rfl <;> trivial

theorem fits_attemptFailed {c : Instr} (hc : endsAttempt c) {s : State} (hs : s.storeFits) (e : Bool) :
    Fits c s (s.attemptFailed e) := by
  obtain ⟨k, image, n, hm, ⟨-, h⟩ | ⟨-, h⟩⟩ | ⟨image, n, hm, ⟨-, h⟩ | ⟨-, h⟩⟩ | h := attemptFailed_cases e s <;> rw [h]
  · exact ⟨storeFits_retry hs _ (.inl ⟨k, image, n, hm, rfl⟩), .inl rfl⟩
  · refine ⟨storeFits_storeFault _ e s, .inr ?_⟩
    rw [(storeFault_store _ e s).2]
    exact changesOp_faulted hc (op_of_writing hs hm)
  · exact ⟨storeFits_retry hs _ (.inr ⟨image, n, hm, rfl⟩), .inl rfl⟩
  · refine ⟨storeFits_storeFault _ e s, .inr ?_⟩
    rw [(storeFault_store _ e s).2]
    exact changesOp_faulted hc (or_assoc.1 (.inl (op_of_saving hs hm).1))
  · exact (Quiet.refl s).fits hs

theorem storeFits_recordVerified {s : State} (hs : s.storeFits) {k : Nat} {image : List Byte} {n : Nat}
    (hm : s.store.mode = .writing k image n) : (s.recordVerified k).storeFits := by
  have hop := op_of_writing hs hm
  obtain ⟨-, hw, -⟩ := hs
  have hv : State.fitsToWrite (State.writeVerified k s) := by
    refine ⟨hop, fun ho hf => ?_⟩
    obtain ⟨⟨h, hh, hset, hr⟩, hcl⟩ := hw ho hf
    refine ⟨⟨{ h with awaits := h.awaits.filter fun a => a != (k, true) }, ?_, hset, hr⟩, hcl⟩
    simp [State.writeVerified, hh]
  rw [recordVerified_eq]
  exact storeFits_startNextWrite (fitsToWrite_reckonActs hv (kept_settleHand _).op (reckonActs_settleHand _))

theorem storeFits_settingsVerified {s : State} (hs : s.storeFits) {image : List Byte} {n : Nat}
    (hm : s.store.mode = .saving image n) : s.settingsVerified.storeFits := by
  have hop := (op_of_saving hs hm).1
  have hv : State.fitsToWrite (State.saveVerified s) := ⟨or_assoc.1 (.inl hop), nofun⟩
  rw [settingsVerified_eq]
  exact storeFits_startNextWrite (fitsToWrite_reckonActs hv (kept_settleHand _).op (reckonActs_settleHand _))

/-- A verified write leaves the operating state. -/
theorem op_recordVerified (k : Nat) (s : State) : (s.recordVerified k).link.op = s.link.op :=
  (kept_startNextWrite _).op.trans (kept_settleHand _).op

theorem op_settingsVerified (s : State) : s.settingsVerified.link.op = s.link.op :=
  (kept_startNextWrite _).op.trans (kept_settleHand _).op

theorem fits_attemptReadBack {c : Instr} (hc : endsAttempt c) {s : State} (hs : s.storeFits) (bs : List Byte) :
    Fits c s (s.attemptReadBack bs) := by
  unfold State.attemptReadBack
  split
  · rename_i k image n hm
    have hu := (quiet_memoryHolds (.kit k) bs s).storeFits hs
    unfold State.recordReadBack
    dsimp only
    split
    · exact ⟨storeFits_recordVerified hu hm, .inl (op_recordVerified k _)⟩
    · exact fits_attemptFailed hc hu false
  · rename_i image n hm
    have hu := (quiet_memoryHolds .settings bs s).storeFits hs
    unfold State.settingsReadBack
    dsimp only
    split
    · exact ⟨storeFits_settingsVerified hu hm, .inl (op_settingsVerified _)⟩
    · exact fits_attemptFailed hc hu false
  · exact (Quiet.refl s).fits hs

theorem fits_attemptInError {c : Instr} (hc : endsAttempt c) {s : State} (hs : s.storeFits) (left : List Byte) :
    Fits c s (s.attemptInError left) := by
  unfold State.attemptInError
  split
  · exact fits_attemptFailed hc ((quiet_memoryHolds _ left s).storeFits hs) true
  · exact fits_attemptFailed hc ((quiet_memoryHolds _ left s).storeFits hs) true
  · exact (Quiet.refl s).fits hs

/-! ### The load (R153, R154) -/

/-- The load goes on to its next read with everything else at rest. -/
theorem storeFits_of_loading {s t : State} (hs : s.storeFits) (hop : s.link.op = .loading) (hq : Quiet s t) (k : Nat) :
    (t.onStore fun c => { c with mode := .readingKit k }).storeFits := by
  obtain ⟨-, hw, hl⟩ := hq.storeFits hs
  exact ⟨hq.op.trans hop, hw, hl⟩

theorem fits_loadSettings {c : Instr} {s : State} (hs : s.storeFits) (hm : s.store.mode = .readingSettings)
    (read : Option (List Byte)) : Fits c s (s.loadSettings read) := by
  have hop := op_of_reading hs (.inl hm)
  have hreject : ∀ reason, Quiet s (s.rejectSettings reason) := fun reason =>
    (⟨⟨rfl, rfl, rfl, rfl, rfl⟩, rfl, rfl⟩ :
      Quiet s ((s.setSettings .default).onScheduler fun q => { q with pattern := defaultPattern })).trans (quiet_post _ _ _)
  have haccept : ∀ b, Quiet s (s.acceptSettings b) := fun b => ⟨⟨rfl, rfl, rfl, rfl, rfl⟩, rfl, rfl⟩
  unfold State.loadSettings
  split
  · exact ⟨storeFits_of_loading hs hop (hreject _) 0, .inl (hreject _).op⟩
  · split
    · exact ⟨storeFits_of_loading hs hop (hreject _) 0, .inl (hreject _).op⟩
    · exact ⟨storeFits_of_loading hs hop (haccept _) 0, .inl rfl⟩

theorem fits_loadKit {c : Instr} {s : State} (hs : s.storeFits) {k : Nat} (hm : s.store.mode = .readingKit k)
    (hc : (∃ r, c = .kitRecordRead r) ∨ ∃ left, c = .storeMemoryTimeout left) (read : Option (List Byte)) :
    Fits c s (s.loadKit k read) := by
  have hop := op_of_reading hs (.inr ⟨k, hm⟩)
  have hput : ∀ kit, Quiet s (if kit = .damaged then (s.putKit k kit).post .damaged (some k) else s.putKit k kit) :=
    fun kit => by
      have h : Quiet s (s.putKit k kit) := ⟨⟨rfl, rfl, rfl, rfl, rfl⟩, rfl, rfl⟩
      split
      · exact h.trans (quiet_post _ _ _)
      · exact h
  unfold State.loadKit
  dsimp only
  split
  · obtain ⟨-, -, hl⟩ := (hput (match read with
      | none => .damaged
      | some b => loadedKit k b)).storeFits hs
    obtain ⟨hqueue, howed, -⟩ := hl ((hput _).op.trans hop)
    refine ⟨⟨⟨.inl rfl, hqueue, howed⟩, fun h => ?_, OpState.noConfusion⟩, .inr ?_⟩
    · exact absurd (howed.symm.trans h) Bool.noConfusion
    · rw [hop]
      obtain ⟨r, rfl⟩ | ⟨left, rfl⟩ := hc <;> trivial
  · exact ⟨storeFits_of_loading hs hop (hput _) _, .inl (hput _).op⟩

/-! ### The line's bytes -/

theorem quiet_rejectFrame (r : RejectReason) (s : State) : Quiet s (s.rejectFrame r) := by
  have hr := (quiet_waiting s).trans (quiet_airActs (airActs_raise _ .linkRejects))
  unfold State.rejectFrame
  dsimp only
  split
  · exact hr.trans (quiet_onLink _ _ rfl rfl)
  · exact hr

theorem quiet_receiveUnknown (kind tag : Byte) (s : State) : Quiet s (s.receiveUnknown kind tag) := by
  unfold State.receiveUnknown
  split
  · exact (quiet_waiting s).trans (quiet_answerUntaken _ _)
  · exact .refl s

theorem fits_takeLinkByte {s : State} (hs : s.storeFits) (b : Byte) : Fits (.linkByteArrival b) s (s.takeLinkByte b) := by
  have goTo : ∀ r, Quiet s (s.onLink fun l => { l with receiver := r }) := fun r => quiet_onLink s _ rfl rfl
  unfold State.takeLinkByte
  dsimp only
  split
  · split
    · exact (goTo _).fits hs
    · exact (Quiet.refl s).fits hs
  · split
    · exact (quiet_rejectFrame _ s).fits hs
    · exact (goTo _).fits hs
  · split <;> exact (goTo _).fits hs
  · exact (goTo _).fits hs
  · unfold State.frameChecked
    split
    · split
      · split
        · obtain ⟨hfit, hop⟩ := frameFits_receiveFrame hs _ _ _
          exact ⟨hfit, hop.imp_right fun h => (changesOp_of_frameChanges h).2 b⟩
        · exact (quiet_receiveUnknown ..).fits hs
      · exact (quiet_rejectFrame _ s).fits hs
    · exact (quiet_rejectFrame _ s).fits hs

/-! ### Every command and event -/

theorem quiet_onFramer (s : State) (f : Framer → Framer) : Quiet s (s.onFramer f) := ⟨⟨rfl, rfl, rfl, rfl, rfl⟩, rfl, rfl⟩

theorem quiet_closeSubWindow (s : State) : Quiet s s.closeSubWindow := by
  unfold State.closeSubWindow
  split
  · split
    · exact quiet_airActs (airActs_raise s _)
    · exact .refl s
  · exact .refl s

theorem quiet_completeFrame (bs : List Byte) (s : State) : Quiet s (s.completeFrame bs) := by
  unfold State.completeFrame
  split
  · split
    · exact (quiet_onFramer s _).trans (quiet_onFramer _ _)
    · exact (quiet_onFramer s _).trans (quiet_airActs (airActs_raise _ _))
  · exact .refl s

theorem quiet_takeUplinkByte (b : Byte) (s : State) : Quiet s (s.takeUplinkByte b) := by
  unfold State.takeUplinkByte
  split
  · split
    · exact quiet_onFramer s _
    · exact .refl s
  · split
    · exact quiet_onFramer s _
    · split
      · exact .refl s
      · exact quiet_onFramer s _
  · split
    · exact quiet_onFramer s _
    · exact quiet_completeFrame _ s
  · exact .refl s

theorem quiet_takeUplinkError (s : State) : Quiet s s.takeUplinkError := by
  unfold State.takeUplinkError
  split
  · exact .refl s
  · exact quiet_onFramer s _
  · exact (quiet_onFramer s _).trans (quiet_airActs (airActs_raise _ _))
  · exact .refl s

theorem quiet_takeSlotStart (s : State) : Quiet s s.takeSlotStart := by
  have hclock : Quiet s ((s.onClock Clock.atSlotStart).onBuilder fun q => { q with slotRoll := none }) :=
    ⟨⟨rfl, rfl, rfl, rfl, rfl⟩, rfl, rfl⟩
  exact (hclock.trans (quiet_airActs (airActs_builderAtSlotStart _))).trans ⟨⟨rfl, rfl, rfl, rfl, rfl⟩, rfl, rfl⟩

theorem quiet_takeDownlinkWindowEnd (s : State) : Quiet s s.takeDownlinkWindowEnd := by
  have hclock : Quiet s (s.onClock fun c => { c with timer := .reply 1 }) := ⟨⟨rfl, rfl, rfl, rfl, rfl⟩, rfl, rfl⟩
  unfold State.takeDownlinkWindowEnd
  dsimp only
  split
  · rcases beginPreparation_cases (s.onClock fun c => { c with timer := .reply 1 }) with ⟨-, -, h⟩ | ⟨-, h⟩ <;> rw [h]
    · exact hclock.trans ⟨⟨rfl, rfl, rfl, rfl, rfl⟩, rfl, rfl⟩
    · exact hclock
  · exact hclock

theorem quiet_takeReplyWindowEnd (s : State) : Quiet s s.takeReplyWindowEnd := by
  unfold State.takeReplyWindowEnd
  dsimp only
  refine Quiet.trans ?_ (quiet_airActs (airActs_closeDone _))
  exact (quiet_closeSubWindow s).trans ⟨⟨rfl, rfl, rfl, rfl, rfl⟩, rfl, rfl⟩

theorem fits_tryAccept {c : Instr} {s : State} (hs : s.storeFits) (r : Requester) : Fits c s (s.tryAccept r) :=
  ⟨storeFits_tryAccept hs r, .inl (kept_tryAccept s r).op⟩

theorem fits_examineNext {s : State} (hs : s.storeFits) : Fits .graceExamine s s.examineNext := by
  unfold State.examineNext
  split
  · rename_i w hw
    have ho : s.link.op ≠ .loading := fun ho => by
      obtain ⟨-, -, hl⟩ := hs
      rw [(hl ho).2.2.1] at hw; cases hw
    split
    · exact (Quiet.refl s).fits hs
    · split
      · exact StoreQuiet.fits ⟨rfl, rfl, rfl, rfl, rfl⟩ ho hs
      · exact (storeQuiet_finishIndex ..).fits ho hs
  · exact (Quiet.refl s).fits hs

theorem fits_exec {s : State} (hs : s.storeFits) (c : Instr) : ∃ t, exec c s = .next t ∧ Fits c s t := by
  cases c using Instr.byFrame with
  | command k tag p =>
    obtain ⟨hfit, hop⟩ := frameFits_receiveFrame hs k tag p
    exact ⟨_, exec_commandOf k tag p s, hfit, hop.imp_right fun h => (changesOp_of_frameChanges h).1 tag p⟩
  | powerUp speed => exact ⟨_, rfl, storeFits_enterLoading .., .inr (by cases s.link.op <;> trivial)⟩
  | resetPinAsserted tear => exact ⟨_, rfl, storeFits_blank _, .inr (by cases s.link.op <;> trivial)⟩
  | powerLoss tear => exact ⟨_, rfl, storeFits_blank _, .inr (by cases s.link.op <;> trivial)⟩
  | resetPinDeasserted speed =>
    refine ⟨_, rfl, fits_if hs _ fun _ => ?_⟩
    split
    · exact ⟨storeFits_enterLoading .., .inr (by cases s.link.op <;> trivial)⟩
    · exact Quiet.fits ⟨⟨rfl, rfl, rfl, rfl, rfl⟩, rfl, rfl⟩ hs
  | referenceClockStops => exact ⟨_, rfl, Quiet.fits ⟨⟨rfl, rfl, rfl, rfl, rfl⟩, rfl, rfl⟩ hs⟩
  | referenceClockReturns => exact ⟨_, rfl, Quiet.fits ⟨⟨rfl, rfl, rfl, rfl, rfl⟩, rfl, rfl⟩ hs⟩
  | slotStart => exact ⟨_, rfl, fits_if hs _ fun _ => (quiet_takeSlotStart s).fits hs⟩
  | downlinkWindowEnd => exact ⟨_, rfl, fits_if hs _ fun _ => (quiet_takeDownlinkWindowEnd s).fits hs⟩
  | replySubWindowStart k =>
    have hq : Quiet s (s.takeSubWindowStart k) := (quiet_closeSubWindow s).trans ⟨⟨rfl, rfl, rfl, rfl, rfl⟩, rfl, rfl⟩
    exact ⟨_, rfl, fits_if hs _ fun _ => hq.fits hs⟩
  | replyWindowEnd => exact ⟨_, rfl, fits_if hs _ fun _ => (quiet_takeReplyWindowEnd s).fits hs⟩
  | hourTick => exact ⟨_, rfl, fits_if hs _ fun _ => Quiet.fits ⟨⟨rfl, rfl, rfl, rfl, rfl⟩, rfl, rfl⟩ hs⟩
  | preparationComplete =>
    refine ⟨_, rfl, fits_if hs _ fun _ => ?_⟩
    unfold State.takePreparationComplete
    split
    · exact (quiet_airActs (.single (.builder s _))).fits hs
    · exact (Quiet.refl s).fits hs
  | burstComplete => exact ⟨_, rfl, fits_if hs _ fun _ => (quiet_airActs (.single (.builder s _))).fits hs⟩
  | uplinkFrameComplete b =>
    refine ⟨_, rfl, ?_⟩
    split
    · exact fits_if hs _ fun _ => (quiet_completeFrame _ s).fits hs
    · exact (Quiet.refl s).fits hs
  | uplinkByteError => exact ⟨_, rfl, fits_if hs _ fun _ => (quiet_takeUplinkError s).fits hs⟩
  | uplinkByteArrival b => exact ⟨_, rfl, fits_if hs _ fun _ => (quiet_takeUplinkByte b s).fits hs⟩
  | receiptHandle =>
    refine ⟨_, rfl, ?_⟩
    split
    · refine fits_if hs _ fun hc => ?_
      have ho : s.link.op ≠ .loading := by
        simp only [Bool.and_eq_true, bne_iff_ne] at hc
        exact hc.2
      exact (storeQuiet_handleFrame _ s).fits ho hs
    · exact (Quiet.refl s).fits hs
  | moveCompletion =>
    refine ⟨_, rfl, ?_⟩
    split
    · exact fits_if hs _ fun _ => fits_tryAccept hs _
    · exact (Quiet.refl s).fits hs
  | withdrawalOnTamper =>
    refine ⟨_, rfl, ?_⟩
    split
    · exact fits_if hs _ fun _ => fits_tryAccept hs _
    · exact (Quiet.refl s).fits hs
  | graceExamine => exact ⟨_, rfl, fits_if hs _ fun _ => fits_examineNext hs⟩
  | graceReckoning => exact ⟨_, rfl, fits_if hs _ fun _ => fits_tryAccept hs _⟩
  | commandReckoning => exact ⟨_, rfl, fits_if hs _ fun _ => fits_tryAccept hs _⟩
  | storeAttemptComplete e =>
    refine ⟨_, rfl, fits_if hs _ fun _ => ?_⟩
    cases e with
    | good => exact fits_attemptReadBack (.inl ⟨_, rfl⟩) hs _
    | readBack bs => exact fits_attemptReadBack (.inl ⟨_, rfl⟩) hs bs
    | inError left => exact fits_attemptInError (.inl ⟨_, rfl⟩) hs left
  | storeMemoryTimeout left =>
    refine ⟨_, rfl, fits_if hs _ fun _ => ?_⟩
    unfold State.memoryTimeout
    split
    · exact fits_loadSettings hs ‹_› none
    · exact fits_loadKit hs ‹_› (.inr ⟨left, rfl⟩) none
    · exact fits_attemptInError (.inr ⟨left, rfl⟩) hs left
  | settingsBlockRead r =>
    refine ⟨_, rfl, ?_⟩
    split
    · exact fits_if hs _ fun _ => fits_loadSettings hs ‹_› _
    · exact (Quiet.refl s).fits hs
  | kitRecordRead r =>
    refine ⟨_, rfl, ?_⟩
    split
    · exact fits_if hs _ fun _ => fits_loadKit hs ‹_› (.inl ⟨r, rfl⟩) _
    · exact (Quiet.refl s).fits hs
  | closingDrainComplete speed =>
    refine ⟨_, rfl, fits_if hs _ fun hc => ⟨storeFits_enterLoading .., .inr ?_⟩⟩
    simp only [Bool.and_eq_true, beq_iff_eq] at hc
    rw [hc.1.2]
    trivial
  | replySent speed =>
    refine ⟨_, rfl, fits_if hs _ fun _ => ?_⟩
    unfold State.takeReplySent
    split
    · exact (Quiet.refl s).fits hs
    · split
      · rename_i hc
        simp only [Bool.and_eq_true, beq_iff_eq] at hc
        refine ⟨storeFits_enterLoading .., .inr ?_⟩
        rw [hc.2]
        trivial
      · exact (quiet_onLink s _ rfl rfl).fits hs
  | notePulseEnd => exact ⟨_, rfl, fits_if hs _ fun _ => (quiet_onLink s _ rfl rfl).fits hs⟩
  | linkFrameReject r => exact ⟨_, rfl, fits_if hs _ fun _ => (quiet_rejectFrame r s).fits hs⟩
  | linkGapExpiry => exact ⟨_, rfl, fits_if hs _ fun _ => (quiet_rejectFrame .gap s).fits hs⟩
  | unknownKindFrame kind tag => exact ⟨_, rfl, (quiet_receiveUnknown kind tag s).fits hs⟩
  | linkByteArrival b => exact ⟨_, rfl, fits_if hs _ fun _ => fits_takeLinkByte hs b⟩

/-- Settles O60: a command keeps the controller fitting, by what it leaves alone or by how writes start and end. -/
theorem onlyTheNamedCommandsChangeTheOperatingState : Obligations.OnlyTheNamedCommandsChangeTheOperatingState := by
  intro s t c hs h
  obtain ⟨u, hu, hfits⟩ := fits_exec hs c
  cases h.symm.trans hu
  exact hfits

end Sys2Proof.Proofs
end

section
/-! PROOFS. The reply window end and the hour tick: the clock moves, the window ends, and a finished roll closes with its
charges (R2 to R4, R107, R126, R128 to R130). -/

namespace Sys2Proof.Proofs

open Sys2Proof Sys2Proof.Machine Sys2Proof.Laws

/-! ### The rolls that close -/

theorem builder_chargePosition (roll : Roll) (s : State) (p : Position) :
    (s.chargePosition roll p).builder = s.builder := by
  rcases chargePosition_cases roll s p with h | ⟨r, -, -, h⟩ <;> rw [h]
  split <;> split <;> rfl

theorem builder_charges (roll : Roll) (ps : List Position) (s : State) :
    (ps.foldl (State.chargePosition roll) s).builder = s.builder := by
  induction ps generalizing s with
  | nil => rfl
  | cons p ps ih => rw [List.foldl_cons, ih, builder_chargePosition]

/-- A closed roll's place is free, and no other part of the builder changes. -/
theorem builder_closeRoll (s : State) (roll : Roll) :
    (s.closeRoll roll).builder = { s.builder with rolls := s.builder.rolls.filter fun q => q.id != roll.id } := by
  rw [State.closeRoll, onBuilder_builder, builder_charges]

theorem builder_closeRolls (l : List Roll) (s : State) :
    (l.foldl State.closeRoll s).builder =
      { s.builder with rolls := s.builder.rolls.filter fun q => l.all fun r => q.id != r.id } := by
  induction l generalizing s with
  | nil => simp
  | cons r l ih => simp [List.foldl_cons, ih, builder_closeRoll, List.filter_filter, Bool.and_comm]

/-- Of the rolls those stay open whose number no closing roll has. -/
theorem builder_closeDone (s : State) :
    s.closeDone.builder = { s.builder with rolls := s.builder.rolls.filter fun q =>
      (s.builder.rolls.filter (rollDone s.framer.fifo)).all fun r => q.id != r.id } := builder_closeRolls _ s

/-- A roll that stays open was open and could not close. -/
theorem mem_rolls_closeDone {s : State} {r : Roll} (h : r ∈ s.closeDone.builder.rolls) :
    r ∈ s.builder.rolls ∧ rollDone s.framer.fifo r = false := by
  rw [builder_closeDone] at h
  obtain ⟨hr, hall⟩ := List.mem_filter.1 h
  refine ⟨hr, Bool.eq_false_iff.2 fun hd => ?_⟩
  have := List.all_eq_true.1 hall r (List.mem_filter.2 ⟨hr, hd⟩)
  simp at this

/-! ### The charges of a close (R128, R129) -/

/-- A roll with these positions in place of its own. -/
abbrev rollWith (roll : Roll) (ps : List Position) : Roll := { roll with positions := ps }

/-- The record after a charge (R128). -/
def chargedRec (g : Settings) (r : KitRec) : KitRec :=
  { r with
    missed := min (r.missed + 1) 15
    silentReported := r.silentReported || g.missedMark ≤ min (r.missed + 1) 15 }

/-- Notices of kits are posted one after another (R168). -/
def State.postAll (ns : List (NoticeKind × Nat)) (s : State) : State := ns.foldl (fun s n => s.post n.1 (some n.2)) s

theorem roster_postAll (ns : List (NoticeKind × Nat)) (s : State) : (State.postAll ns s).roster = s.roster := by
  induction ns generalizing s with
  | nil => rfl
  | cons n ns ih => exact ih (s.post n.1 (some n.2))

theorem chargedRec_eq (g : Settings) (r : KitRec) :
    { r with missed := satSucc 15 r.missed, silentReported := r.silentReported || silentDue g r } = chargedRec g r := by
  cases hs : r.silentReported <;> simp [chargedRec, silentDue, satSucc, hs]

theorem closeNotices_charged {roll : Roll} {g : Settings} {p : Position} {r : KitRec} (hc : r.chargedFor g roll p = true) :
    (Kit.enrolled r).closeNotices g roll p =
      (if silentDue g r then [(.silent (satSucc 15 r.missed) r.lastHeard, p.kit)] else []) ++
        (if unreachedDue g p r then [(.unreached p.issue p.sends (satSucc 15 r.missed), p.kit)] else []) := by
  simp only [Kit.closeNotices, hc, if_true]
  rfl

/-- A charged position changes its kit's record and then posts its notices. -/
theorem chargePosition_charged {roll : Roll} {s : State} {p : Position} {r : KitRec} (hk : s.kit p.kit = .enrolled r)
    (hc : r.chargedFor s.settings roll p = true) :
    s.chargePosition roll p = State.postAll ((s.kit p.kit).closeNotices s.settings roll p)
      (s.putKit p.kit (.enrolled (chargedRec s.settings r))) := by
  have hc' : charged s.settings roll p r = true := hc
  have hput : (s.putKit p.kit (.enrolled (chargedRec s.settings r))).settings = s.settings := rfl
  simp only [State.chargePosition, hk, hc', if_true, chargedRec_eq, closeNotices_charged hc, hput]
  cases silentDue s.settings r <;> simp only [if_true, Bool.false_eq_true, if_false, post_settings, hput] <;>
    cases unreachedDue s.settings p r <;> rfl

/-- A position that is not charged changes nothing, and posts nothing. -/
theorem chargePosition_uncharged {roll : Roll} {s : State} {p : Position}
    (h : ∀ r, s.kit p.kit = .enrolled r → r.chargedFor s.settings roll p = false) :
    s.chargePosition roll p = s ∧ (s.kit p.kit).closeNotices s.settings roll p = [] := by
  cases hk : s.kit p.kit with
  | free => simp [State.chargePosition, hk, Kit.closeNotices]
  | damaged => simp [State.chargePosition, hk, Kit.closeNotices]
  | enrolled r =>
    have hc := h r hk
    have hc' : charged s.settings roll p r = false := hc
    simp [State.chargePosition, hk, Kit.closeNotices, hc, hc']

/-- A close leaves a kit that the roll does not name. -/
theorem afterClose_of_not_mem {g : Settings} {roll : Roll} {k : Nat} (h : k ∉ roll.positions.map Position.kit) (kit : Kit) :
    kit.afterClose g roll k = kit := by
  have hfind : roll.positions.find? (·.kit == k) = none := by
    rw [List.find?_eq_none]
    intro p hp he
    exact h (List.mem_map.2 ⟨p, hp, by simpa using he⟩)
  unfold Kit.afterClose
  rw [hfind]
  split
  · rename_i h; cases h
  · rfl

/-- A close charges the kit of its first position as that position says. -/
theorem afterClose_head {g : Settings} {roll : Roll} {p : Position} (ps : List Position) (r : KitRec) :
    (Kit.enrolled r).afterClose g (rollWith roll (p :: ps)) p.kit =
      if r.chargedFor g roll p then .enrolled (chargedRec g r) else .enrolled r := by
  simp only [Kit.afterClose, List.find?_cons_of_pos, beq_self_eq_true]
  rfl

/-- The records after the charge of one position. -/
theorem kit_chargePosition (roll : Roll) (s : State) (p : Position) (k : Nat) :
    (s.chargePosition roll p).kit k = (s.kit k).afterClose s.settings (rollWith roll [p]) k := by
  by_cases hc : ∃ r, s.kit p.kit = .enrolled r ∧ r.chargedFor s.settings roll p = true
  · obtain ⟨r, hk, hc⟩ := hc
    rw [chargePosition_charged hk hc, kit_congr (roster_postAll _ _), kit_putKit]
    split
    · subst k; rw [hk, afterClose_head, if_pos hc]
    · rename_i hne
      rw [afterClose_of_not_mem (by simpa using hne)]
  · have hun : ∀ r, s.kit p.kit = .enrolled r → r.chargedFor s.settings roll p = false := fun r hk =>
      Bool.eq_false_iff.2 fun h => hc ⟨r, hk, h⟩
    rw [(chargePosition_uncharged hun).1]
    by_cases hne : k = p.kit
    · subst hne
      cases hk : s.kit p.kit with
      | free => rfl
      | damaged => rfl
      | enrolled r => rw [afterClose_head, hun r hk]; rfl
    · rw [afterClose_of_not_mem (by simpa using hne)]

/-- The charges leave the settings and the clock. -/
theorem settings_chargePosition (roll : Roll) (s : State) (p : Position) : (s.chargePosition roll p).settings = s.settings :=
  (kept_chargePosition roll s p).settings

/-- The records after the charges of positions that name different kits. -/
theorem kit_charges (roll : Roll) {ps : List Position} (hnd : (ps.map Position.kit).Nodup) (s : State) (k : Nat) :
    (ps.foldl (State.chargePosition roll) s).kit k = (s.kit k).afterClose s.settings (rollWith roll ps) k := by
  induction ps generalizing s with
  | nil => exact (afterClose_of_not_mem (by simp) _).symm
  | cons p ps ih =>
    rw [List.map_cons, List.nodup_cons] at hnd
    rw [List.foldl_cons, ih hnd.2, settings_chargePosition, kit_chargePosition]
    by_cases hk : p.kit = k
    · rw [afterClose_of_not_mem (roll := rollWith roll ps) (by subst hk; exact hnd.1)]
      simp [Kit.afterClose, hk, KitRec.chargedFor]
    · rw [afterClose_of_not_mem (roll := rollWith roll [p]) (by simpa using Ne.symm hk)]
      simp [Kit.afterClose, hk, KitRec.chargedFor]

/-! ### The notices of a close -/

/-- A post while there is room joins the tail (R168). -/
theorem post_notices {s : State} (h : s.link.notices.length < 32) (n : NoticeKind) (k : Option Nat) :
    (s.post n k).link.notices =
      s.link.notices ++ [{ kind := n, dh := s.clock.dh, cycle := s.clock.cycle, kit := k }] := by
  rw [post_link, if_pos h]

/-- Posts of kits that find room join the tail in order, stamped with the clock. -/
theorem notices_postAll (ns : List (NoticeKind × Nat)) (s : State) (h : s.link.notices.length + ns.length ≤ 32) :
    (State.postAll ns s).link.notices = s.link.notices ++ s.clock.stamp ns := by
  induction ns generalizing s with
  | nil => simp [State.postAll, Clock.stamp]
  | cons n ns ih =>
    rw [List.length_cons] at h
    have hp := post_notices (s := s) (by omega) n.1 (some n.2)
    rw [State.postAll, List.foldl_cons, ← State.postAll, ih _ (by rw [hp]; simp; omega), hp, post_clock]
    simp [Clock.stamp]

theorem notices_chargePosition (roll : Roll) (s : State) (p : Position)
    (h : s.link.notices.length + ((s.kit p.kit).closeNotices s.settings roll p).length ≤ 32) :
    (s.chargePosition roll p).link.notices =
      s.link.notices ++ s.clock.stamp ((s.kit p.kit).closeNotices s.settings roll p) := by
  by_cases hc : ∃ r, s.kit p.kit = .enrolled r ∧ r.chargedFor s.settings roll p = true
  · obtain ⟨r, hk, hc⟩ := hc
    rw [chargePosition_charged hk hc]
    exact notices_postAll _ (s.putKit p.kit _) h
  · obtain ⟨hs, hn⟩ := chargePosition_uncharged (roll := roll) (s := s) (p := p) fun r hk =>
      Bool.eq_false_iff.2 fun h => hc ⟨r, hk, h⟩
    rw [hs, hn]
    simp [Clock.stamp]

/-- The charges of positions that name different kits post the notices of each, as the records stood before. -/
theorem notices_charges (roll : Roll) {ps : List Position} (hnd : (ps.map Position.kit).Nodup) (s : State)
    (h : s.link.notices.length + (ps.flatMap fun p => (s.kit p.kit).closeNotices s.settings roll p).length ≤ 32) :
    (ps.foldl (State.chargePosition roll) s).link.notices =
      s.link.notices ++ s.clock.stamp (ps.flatMap fun p => (s.kit p.kit).closeNotices s.settings roll p) := by
  induction ps generalizing s with
  | nil => simp [Clock.stamp]
  | cons p ps ih =>
    rw [List.map_cons, List.nodup_cons] at hnd
    rw [List.flatMap_cons, List.length_append] at h
    have hp := notices_chargePosition roll s p (by omega)
    have hrest : (ps.flatMap fun q => ((s.chargePosition roll p).kit q.kit).closeNotices
        (s.chargePosition roll p).settings roll q) = ps.flatMap fun q => (s.kit q.kit).closeNotices s.settings roll q := by
      refine List.flatMap_congr fun q hq => ?_
      have hne : q.kit ≠ p.kit := fun he => hnd.1 (List.mem_map.2 ⟨q, hq, he⟩)
      rw [settings_chargePosition, kit_chargePosition, afterClose_of_not_mem (by simpa using hne)]
    have hclock := (kept_chargePosition roll s p).clock
    rw [List.foldl_cons, ih hnd.2 _ (by rw [hrest, hp, List.length_append, Clock.stamp, List.length_map]; omega), hrest, hp, hclock]
    simp [Clock.stamp]

/-! ### The lists in a close -/

theorem tablesCanonical_congr {s t : State} (hr : t.roster = s.roster) (hq : t.scheduler = s.scheduler)
    (hc : t.store.cells = s.store.cells) : t.tablesCanonical = s.tablesCanonical := by
  simp only [State.tablesCanonical, hr, hq, hc]

theorem listsFollow_congr {s t : State} (hr : t.roster = s.roster) (hq : t.scheduler = s.scheduler) (h : s.listsFollow) :
    t.listsFollow := fun slot => by
  rw [list_congr (s := s) (by rw [hq])]
  simpa only [kit_congr hr] using h slot

/-- The lists are sound, and they are those of the first state. -/
structure ListsStand (s t : State) : Prop where
  canonical : t.tablesCanonical = true
  follow    : t.listsFollow
  same      : ∀ slot, t.list slot = s.list slot

/-- A record that is required in the same slots as the one it replaces changes no list. -/
theorem listsStand_putKit {s : State} (hc : s.tablesCanonical = true) (hf : s.listsFollow) {k : Nat} {kit : Kit}
    (h : kit.requiredSlots = (s.kit k).requiredSlots) : ListsStand s (s.putKit k kit) := by
  refine ⟨tablesCanonical_putKit hc k kit, listsFollow_putKit hc hf k kit, fun slot => ?_⟩
  obtain ⟨-, -, hl⟩ := recordIs_putKit hc k kit
  obtain ⟨-, hm⟩ := hf slot
  rw [hl, h]
  split
  · rename_i hs
    rw [if_pos ((hm k).2 hs)]
  · rename_i hs
    refine List.filter_eq_self.2 fun j hj => ?_
    have hne : j ≠ k := by rintro rfl; exact hs ((hm j).1 hj)
    simpa using hne

theorem listsStand_chargePosition (roll : Roll) {s : State} (hc : s.tablesCanonical = true) (hf : s.listsFollow)
    (p : Position) : ListsStand s (s.chargePosition roll p) := by
  rcases chargePosition_cases roll s p with h | ⟨r, hk, -, h⟩ <;> rw [h]
  · exact ⟨hc, hf, fun _ => rfl⟩
  · have hput := listsStand_putKit hc hf (k := p.kit) (kit := .enrolled { r with
      missed := satSucc 15 r.missed, silentReported := r.silentReported || silentDue s.settings r }) (by rw [hk]; rfl)
    split <;> split <;> exact ⟨hput.canonical, hput.follow, hput.same⟩

theorem listsStand_charges (roll : Roll) (ps : List Position) {s : State} (hc : s.tablesCanonical = true)
    (hf : s.listsFollow) : ListsStand s (ps.foldl (State.chargePosition roll) s) := by
  induction ps generalizing s with
  | nil => exact ⟨hc, hf, fun _ => rfl⟩
  | cons p ps ih =>
    have hp := listsStand_chargePosition roll hc hf p
    have hps := ih hp.canonical hp.follow
    exact ⟨hps.canonical, hps.follow, fun slot => (hps.same slot).trans (hp.same slot)⟩

/-! ### The end of the reply window -/

theorem closeSubWindow_cases (s : State) : s.closeSubWindow = s ∨ s.closeSubWindow = s.raise .short := by
  unfold State.closeSubWindow
  split
  · split
    · exact .inr rfl
    · exact .inl rfl
  · exact .inl rfl

/-- The part at a reply window end, before the rolls that are done close. -/
def State.windowOver (s : State) : State :=
  ((s.closeSubWindow.onFramer fun f =>
      { f with window := none, armed := if s.clock.timer == .early then f.armed else none }).onBuilder fun q =>
      { q with rolls := endWindows (if s.clock.timer == .early then q.slotRoll else none) q.rolls }).onClock
    Clock.atReplyWindowEnd

theorem exec_replyWindowEnd {s : State} (h : s.timed = true) :
    exec .replyWindowEnd s = .next (State.windowOver s).closeDone := by
  show execReplyWindowEnd s = _
  rw [execReplyWindowEnd, if_pos h]
  rfl

/-- What the part at a reply window end has of the part before it. -/
theorem windowOver_eq (s : State) : State.windowOver s =
    { s with
      clock := s.clock.atReplyWindowEnd
      framer := { s.framer with window := none, armed := if s.clock.timer == .early then s.framer.armed else none }
      builder := { s.builder with
        rolls := endWindows (if s.clock.timer == .early then s.builder.slotRoll else none) s.builder.rolls }
      link := s.closeSubWindow.link } := by
  unfold State.windowOver
  rcases closeSubWindow_cases s with h | h <;> rw [h] <;> rfl

/-- The count of a short frame leaves the notices, the operating state and the command in hand. -/
theorem closeSubWindow_link (s : State) : s.closeSubWindow.link.op = s.link.op ∧
    s.closeSubWindow.link.hand = s.link.hand ∧ s.closeSubWindow.link.notices = s.link.notices := by
  rcases closeSubWindow_cases s with h | h <;> rw [h] <;> exact ⟨rfl, rfl, rfl⟩

/-- With no slot start taken first, every open roll's window has ended. -/
theorem endWindows_none (rolls : List Roll) : endWindows none rolls = rolls.map fun r => { r with windowEnded := true } := by
  simp [endWindows]

/-- The clock at a reply window end in its usual order, with no tick due (R3). -/
theorem atReplyWindowEnd_slot {c : Clock} (he : c.timer ≠ .early) (hd : c.tickDue = false) (hs : c.slot < 119) :
    c.atReplyWindowEnd = { c with slot := c.slot + 1, timer := .boundary } := by
  have hne : ¬ c.slot = 119 := by omega
  simp [Clock.atReplyWindowEnd, Clock.advance, Clock.atHourEnd, he, hd, hs, hne]

theorem atReplyWindowEnd_cycle {c : Clock} (he : c.timer ≠ .early) (hd : c.tickDue = false) (hs : c.slot = 119)
    (hc : c.cycle < 59) : c.atReplyWindowEnd = { c with slot := 0, cycle := c.cycle + 1, timer := .boundary } := by
  have hne : ¬ c.cycle = 59 := by omega
  simp [Clock.atReplyWindowEnd, Clock.advance, Clock.atHourEnd, he, hd, hs, hc, hne]

theorem atReplyWindowEnd_hour {c : Clock} (he : c.timer ≠ .early) (hd : c.tickDue = false) (hs : c.slot = 119)
    (hc : c.cycle = 59) : c.atReplyWindowEnd = { c with tickDue := true, timer := .boundary } := by
  simp [Clock.atReplyWindowEnd, Clock.atHourEnd, he, hd, hs, hc]

/-- A roll still open after a reply window end in its usual order has a frame in the FIFO. -/
theorem rolls_after_windowEnd {s : State} (he : s.clock.timer ≠ .early) {r : Roll}
    (h : r ∈ (State.windowOver s).closeDone.builder.rolls) :
    r.windowEnded = true ∧ ∃ f ∈ s.framer.fifo, f.roll = some r.id := by
  obtain ⟨hr, hd⟩ := mem_rolls_closeDone h
  rw [windowOver_eq] at hr hd
  simp only [he, beq_iff_eq, if_false, endWindows_none, List.mem_map] at hr
  obtain ⟨q, -, rfl⟩ := hr
  simpa [rollDone] using hd

/-- The end of the window of the only open roll, with no frame of it in the FIFO, closes it. -/
theorem windowOver_closes {s : State} {roll : Roll} (he : s.clock.timer ≠ .early) (hr : s.builder.rolls = [roll])
    (hf : ∀ f ∈ s.framer.fifo, f.roll ≠ some roll.id) :
    (State.windowOver s).closeDone = (State.windowOver s).closeRoll { roll with windowEnded := true } := by
  have hrolls : (State.windowOver s).builder.rolls = [{ roll with windowEnded := true }] := by
    rw [windowOver_eq]
    simp [he, endWindows_none, hr]
  have hdone : rollDone (State.windowOver s).framer.fifo { roll with windowEnded := true } = true := by
    rw [windowOver_eq]
    simpa [rollDone] using hf
  simp only [State.closeDone, hrolls, List.filter_cons, hdone, if_true, List.filter_nil, List.foldl_cons, List.foldl_nil]

/-! ### The hour tick (R3, R4) -/

theorem exec_hourTick {s : State} (h : s.timed = true) (hd : s.clock.tickDue = true) :
    exec .hourTick s = .next { s with clock := s.clock.advance } := by
  show execHourTick s = _
  simp only [execHourTick, h, if_true, State.onClock, Clock.atHourTick, hd]

theorem advance_hour {c : Clock} (hs : c.slot = 119) (hc : c.cycle = 59) (hd : c.dh < maxHour) :
    c.advance = { c with dh := c.dh + 1, cycle := 0, slot := 0, tickDue := false } := by
  simp [Clock.advance, hs, hc, hd]

theorem advance_end {c : Clock} (hs : c.slot = 119) (hc : c.cycle = 59) (hd : c.dh = maxHour) :
    c.advance = { c with cycle := 0, slot := 0, endOfCount := true, tickDue := false } := by
  simp [Clock.advance, hs, hc, hd]

/-! ### The statement's three parts -/

/-- The clock, the window and the frame of every reply window end. -/
theorem replyWindowEnd_moves_clock (s : State) (ht : s.timed = true) (hd : s.clock.tickDue = false) :
    ∃ t, exec .replyWindowEnd s = .next t ∧
      (s.clock.timer ≠ .early →
        (s.clock.slot < 119 → t.clock = { s.clock with slot := s.clock.slot + 1, timer := .boundary }) ∧
        (s.clock.slot = 119 → s.clock.cycle < 59 →
          t.clock = { s.clock with slot := 0, cycle := s.clock.cycle + 1, timer := .boundary }) ∧
        (s.clock.slot = 119 → s.clock.cycle = 59 → t.clock = { s.clock with tickDue := true, timer := .boundary }) ∧
        t.framer.armed = none ∧
        ∀ r ∈ t.builder.rolls, r.windowEnded = true ∧ ∃ f ∈ s.framer.fifo, f.roll = some r.id) ∧
      (s.clock.timer = .early → t.clock = { s.clock with timer := .downlink } ∧ t.framer.armed = s.framer.armed) ∧
      t.framer.window = none ∧ t.framer.fifo = s.framer.fifo ∧ t.handler = s.handler ∧ t.store = s.store ∧
      t.settings = s.settings ∧ t.walk = s.walk ∧ t.link.op = s.link.op ∧ t.link.hand = s.link.hand ∧
      t.builder.onAir = s.builder.onAir ∧ t.builder.ready = s.builder.ready ∧
      t.builder.preparing = s.builder.preparing ∧ ∀ k, (s.kit k).sameStored (t.kit k) := by
  have hu := windowOver_eq s
  have k := (airActs_closeDone (State.windowOver s)).kept
  obtain ⟨hop, hhand, -⟩ := closeSubWindow_link s
  have hclock : (State.windowOver s).closeDone.clock = s.clock.atReplyWindowEnd := by rw [k.clock, hu]
  have hframer : (State.windowOver s).closeDone.framer = { s.framer with
      window := none, armed := if s.clock.timer == .early then s.framer.armed else none } := by rw [k.framer, hu]
  have hbuilder := builder_closeDone (State.windowOver s)
  refine ⟨_, exec_replyWindowEnd ht, fun he => ⟨fun h => ?_, fun h h' => ?_, fun h h' => ?_, ?_, fun r hr => ?_⟩,
    fun he => ⟨?_, ?_⟩, by rw [hframer], by rw [hframer], by rw [k.handler, hu], by rw [k.store, hu],
    by rw [k.settings, hu], by rw [k.walk, hu], by rw [k.op, hu]; exact hop, by rw [k.hand, hu]; exact hhand,
    by rw [hbuilder, hu], by rw [hbuilder, hu], by rw [hbuilder, hu], fun j => ?_⟩
  · rw [hclock, atReplyWindowEnd_slot he hd h]
  · rw [hclock, atReplyWindowEnd_cycle he hd h h']
  · rw [hclock, atReplyWindowEnd_hour he hd h h']
  · rw [hframer]; simp [he]
  · exact rolls_after_windowEnd he hr
  · rw [hclock]; simp [Clock.atReplyWindowEnd, he]
  · rw [hframer]; simp [he]
  · have hj : (State.windowOver s).kit j = s.kit j := kit_congr (by rw [hu]) j
    rw [← hj]
    exact k.stored j

/-- The close of the only open roll at the end of its window. -/
theorem replyWindowEnd_closes_roll (s : State) (roll : Roll) (ht : s.timed = true) (he : s.clock.timer ≠ .early)
    (hr : s.builder.rolls = [roll]) (hf : ∀ f ∈ s.framer.fifo, f.roll ≠ some roll.id)
    (hnd : (roll.positions.map Position.kit).Nodup) :
    ∃ t, exec .replyWindowEnd s = .next t ∧ t.builder.rolls = [] ∧
      (∀ k, t.kit k = (s.kit k).afterClose s.settings roll k) ∧
      (let posted := roll.positions.flatMap fun p => (s.kit p.kit).closeNotices s.settings roll p
       s.link.notices.length + posted.length ≤ 32 → t.link.notices = s.link.notices ++ t.clock.stamp posted) ∧
      (s.tablesCanonical = true → s.listsFollow → ∀ slot, t.list slot = s.list slot) := by
  have hu := windowOver_eq s
  have hkit : ∀ k, (State.windowOver s).kit k = s.kit k := kit_congr (by rw [hu])
  have hset : (State.windowOver s).settings = s.settings := by rw [hu]
  have hnotices : (State.windowOver s).link.notices = s.link.notices := by rw [hu]; exact (closeSubWindow_link s).2.2
  refine ⟨_, exec_replyWindowEnd ht, ?_⟩
  rw [windowOver_closes he hr hf]
  refine ⟨?_, fun k => ?_, fun hroom => ?_, fun hc hl slot => ?_⟩
  · rw [builder_closeRoll, hu]
    simp [he, endWindows_none, hr]
  · have := kit_charges { roll with windowEnded := true } hnd (State.windowOver s) k
    rw [hkit, hset] at this
    exact this
  · have := notices_charges { roll with windowEnded := true } hnd (State.windowOver s)
    simp only [hkit, hset, hnotices] at this
    rw [(kept_closeRoll _ _).clock]
    exact this hroom
  · have hstand := listsStand_charges { roll with windowEnded := true } roll.positions
      (s := State.windowOver s) ((tablesCanonical_congr (by rw [hu]) (by rw [hu]) (by rw [hu])).trans hc)
      (listsFollow_congr (s := s) (by rw [hu]) (by rw [hu]) hl)
    rw [show s.list slot = (State.windowOver s).list slot from (list_congr (by rw [hu]) slot).symm]
    exact hstand.same slot

/-- Settles O8, by the clock's cases and the charges of the positions of the roll that closes. -/
theorem replyWindowEndAndHourTickMoveTheClock : Obligations.ReplyWindowEndAndHourTickMoveTheClock := by
  refine ⟨replyWindowEnd_moves_clock, replyWindowEnd_closes_roll, fun s ht hd hs hc => ⟨fun hdh => ?_, fun hdh => ?_⟩⟩
  · rw [exec_hourTick ht hd, advance_hour hs hc hdh]
  · refine ⟨_, exec_hourTick ht hd, by rw [advance_end hs hc hdh], ?_⟩
    rw [advance_end hs hc hdh]
    rfl

end Sys2Proof.Proofs
end

section
/-! PROOFS. The state after reset, the entries to LOADING, the stopped reference, and the commands that report or set the
clock (R1, R5 to R8, R14, R165, R177, R178). -/

namespace Sys2Proof.Proofs

open Sys2Proof Sys2Proof.Machine Sys2Proof.Laws

/-! ### The gates of a taken command (R7, R14) -/

/-- A frame that passes the tests of the link goes on to the gates of the operating state and the clock. -/
theorem receiveFrame_tested {s : State} {k : CmdKind} {tag : Byte} {p : List Byte} (hl : s.live = true)
    (hh : s.link.hand = none) (hr : s.repeatOf k tag p = none) (hp : p.length = requiredLength k p)
    (hc : s.link.replies.length < 8) (rule : Byte → List Byte → State → State) :
    s.receiveFrame k tag p rule = (State.waiting s).admitFrame k tag p rule := by
  have hr' : (s.onLink fun l => { l with receiver := .waiting }).repeatOf k tag p = none := hr
  have hc' : ¬ replyCapacity ≤ s.link.replies.length := Nat.not_le.2 hc
  simp only [State.receiveFrame, hl, if_true, onLink_link, hh, Option.isSome_none, Bool.false_eq_true, if_false, hr',
    ← hp, bne_self_eq_false, hc']
  rfl

theorem admitFrame_state {s : State} {k : CmdKind} (h : admits k s.link.op = false) (tag : Byte) (p : List Byte)
    (rule : Byte → List Byte → State → State) :
    s.admitFrame k tag p rule = s.answerNow k tag p .state (be1 s.link.op.code) := by
  simp [State.admitFrame, h]

theorem admitFrame_noClock {s : State} {k : CmdKind} (ha : admits k s.link.op = true) (hg : gated k = true)
    (hc : s.clock.isSet = false) (tag : Byte) (p : List Byte) (rule : Byte → List Byte → State → State) :
    s.admitFrame k tag p rule = s.answerNow k tag p .noClock [] := by
  simp [State.admitFrame, ha, hg, hc]

/-- Settles O38: the two gates in their order, and the commands of each operating state by cases over the commands. -/
theorem stateAndClockGateTheCommands : Obligations.StateAndClockGateTheCommands := by
  refine ⟨fun k tag p s hl hh hr hp hc => ⟨fun ha => ?_, fun ha hg hs => ?_⟩,
    fun k => ?_, fun k => ?_, fun k => ?_, fun k => ?_, fun k => ?_, fun k => ?_⟩
  · rw [exec_commandOf, receiveFrame_tested hl hh hr hp hc, admitFrame_state (s := State.waiting s) ha]
    rfl
  · rw [exec_commandOf, receiveFrame_tested hl hh hr hp hc, admitFrame_noClock (s := State.waiting s) ha hg hs]
    rfl
  all_goals cases k <;> decide

/-- A command that its rule answers at once leaves the part answered and nothing else changed; ENROL BLOCK's reply has its
count after that. -/
theorem exec_answered {k : CmdKind} {tag : Byte} {p : List Byte} {s : State} {st : Status} {content : List Byte}
    (h : s.ready k tag p = true) (hk : k ≠ .enrolBlock)
    (hr : ruleOf k tag p (State.waiting s) = (State.waiting s).answerNow k tag p st content) :
    exec (commandOf k tag p) s = .next (s.answered k tag p st content) := by
  rw [exec_ready h, hr, answerNow_waiting, enrolledTail, if_neg hk, List.append_nil]

/-! ### The state after reset (R1, R8) -/

/-- Settles O3: the reset values, read off. -/
theorem resetLeavesThePartLoading : Obligations.ResetLeavesThePartLoading := by
  unfold Obligations.ResetLeavesThePartLoading
  exact ⟨rfl, rfl, rfl, rfl, rfl, rfl, rfl, fun _ => rfl, fun _ => rfl, rfl, rfl, fun _ => rfl, fun _ => rfl, rfl, rfl, rfl, rfl,
    rfl, rfl, rfl, rfl, rfl, rfl, rfl, rfl, rfl, rfl, rfl, rfl, rfl, rfl, rfl, rfl⟩

/-- After reset the lists are empty and no record requires a place in one. -/
theorem listsFollow_reset : State.reset.listsFollow := fun _ =>
  ⟨List.nodup_nil, fun _ => ⟨nofun, nofun⟩⟩

theorem recordsValid_reset : State.reset.recordsValid := ⟨by decide, by decide, nofun, fun _ => rfl⟩

/-- After reset the store controller reads the settings block and nothing else is at work. -/
theorem storeFits_reset : State.reset.storeFits := storeFits_blank .reset

/-- Settles O4, invariant by invariant. -/
theorem resetMeetsTheInvariants : Obligations.ResetMeetsTheInvariants :=
  ⟨by decide, by decide, by decide, by decide, by decide, by decide, listsFollow_reset, recordsValid_reset, storeFits_reset⟩

/-! ### The entries to LOADING (R8, R11, R12) -/

/-- A part with nothing left to do is drained (R12). -/
theorem drained_of {s : State} (hq : s.store.queue = []) (hm : s.store.mode = .idle) (ha : s.builder.onAir = none)
    (hw : s.framer.window = none) (hf : s.framer.fifo = []) (hr : s.builder.rolls = []) (hk : s.walk = none) :
    s.drained = true := by
  simp [State.drained, hq, hm, ha, hw, hf, hr, hk]

theorem live_of {s : State} (hp : s.pins.power = true) (hr : s.pins.resetPin = false) : s.live = true := by
  simp [State.live, hp, hr]

/-- Settles O5, entry by entry. -/
theorem entryToLoadingResetsEveryBlock : Obligations.EntryToLoadingResetsEveryBlock := by
  refine fun s speed => ⟨rfl, fun hp hr => ?_, fun hp hr hop hq hm ha hw hf hro hk => ?_, fun r rest hp hr hop hre he => ?_⟩
  · show execResetPinDeasserted speed s = _
    rw [execResetPinDeasserted, if_pos hr, if_pos hp]
    rfl
  · show execClosingDrainComplete speed s = _
    rw [execClosingDrainComplete, if_pos (by simp [live_of hp hr, hop, drained_of hq hm ha hw hf hro hk])]
    rfl
  · show execReplySent speed s = _
    rw [execReplySent, if_pos (live_of hp hr), State.takeReplySent, hre]
    simp only [he, hop]
    rfl

/-! ### The stopped reference (R2) -/

/-- While the reference stands nothing counted by it takes effect. -/
theorem clocked_of_stopped {s : State} (h : s.pins.refStopped = true) : s.clocked = false := by
  simp [State.clocked, h]

theorem timed_of_stopped {s : State} (h : s.pins.refStopped = true) : s.timed = false := by
  simp [State.timed, clocked_of_stopped h]

/-- Settles O7: each of these events asks first whether the reference runs. -/
theorem stoppedReferenceHoldsEveryTiming : Obligations.StoppedReferenceHoldsEveryTiming := by
  refine fun s => ⟨rfl, rfl, fun h => ⟨fun c hc => ?_, fun k => ?_, fun b => ?_, fun b => ?_, fun left => ?_⟩⟩
  · have hclocked := clocked_of_stopped h
    have htimed := timed_of_stopped h
    simp only [List.mem_cons, List.not_mem_nil, or_false] at hc
    rcases hc with rfl | rfl | rfl | rfl | rfl | rfl | rfl | rfl <;>
      simp [exec, execSlotStart, execDownlinkWindowEnd, execReplyWindowEnd, execHourTick, execBurstComplete,
        execNotePulseEnd, execLinkGapExpiry, execUplinkByteError, hclocked, htimed]
  · show execReplySubWindowStart k s = _
    simp [execReplySubWindowStart, timed_of_stopped h]
  · show execUplinkByteArrival b s = _
    simp [execUplinkByteArrival, clocked_of_stopped h]
  · show execUplinkFrameComplete b s = _
    rw [execUplinkFrameComplete]
    split <;> simp [clocked_of_stopped h]
  · show execStoreMemoryTimeout left s = _
    simp [execStoreMemoryTimeout, clocked_of_stopped h]

/-! ### STATUS and READ KIT (R165, R177, R178) -/

/-- The pending count is the number of enrolled records that are not settled (R72). -/
theorem pendingCount_eq {f : Nat × Kit → Bool} (hf : ∀ k, f (k, .free) = false) (hd : ∀ k, f (k, .damaged) = false)
    (he : ∀ k r, f (k, .enrolled r) = !r.settled) (s : State) : s.pendingCount = (s.roster.filter f).length := by
  unfold State.pendingCount State.enrolledKits
  induction s.roster with
  | nil => rfl
  | cons e m ih =>
    obtain ⟨k, kit⟩ := e
    cases kit with
    | free => simpa [hf] using ih
    | damaged => simpa [hd] using ih
    | enrolled r => cases hr : r.settled <;> simp [he, hr, ih]

/-- The DAMAGED count is the number of damaged records (R37). -/
theorem damagedCount_eq {f : Nat × Kit → Bool} (hf : ∀ k, f (k, .free) = false) (hd : ∀ k, f (k, .damaged) = true)
    (he : ∀ k r, f (k, .enrolled r) = false) (s : State) : s.damagedCount = (s.roster.filter f).length := by
  unfold State.damagedCount
  congr 2
  funext ⟨k, kit⟩
  cases kit with
  | free => exact (hf k).symm
  | damaged => exact (hd k).symm
  | enrolled r => exact (he k r).symm

theorem length_readKitBody (kit : Kit) (u : Bool) : (readKitBody kit u).length = 32 := by
  cases kit <;> simp [readKitBody, be1, be2, be3, be4]

theorem readKitBody_enrolled (r : KitRec) (u : Bool) : readKitBody (.enrolled r) u =
    be1 (if r.heldHours = none then 1 else 2) ++ [0] ++
    be1 (1 + 2 * r.moveIssue.isSome.toNat + 4 * r.heldHours.isSome.toNat + 8 * r.confirmed.isSome.toNat +
      16 * r.lastSent.isSome.toNat + 32 * r.lastHeard.isSome.toNat + 64 * r.lastStatus.isSome.toNat + 128 * u.toNat) ++
    be1 (r.answers.toNat + 2 * (!r.settled).toNat + 4 * r.unlock.toNat + 8 * r.notify.toNat +
      16 * r.moveSent.toNat + 32 * r.silentReported.toNat) ++
    be1 r.listen ++ be1 r.ordered ++
    (match r.moveIssue with | some mi => be2 mi.toNat | none => [0, 0]) ++ be3 r.horizon ++
    (match r.heldHours with | some h => be2 h | none => [0, 0]) ++ be2 r.issue.toNat ++ be1 r.mark ++
    (match r.confirmed with | some i => be2 i.toNat | none => [0, 0]) ++ be1 r.sends ++
    (match r.lastSent with | some c => be4 c | none => [0, 0, 0, 0]) ++
    (match r.lastHeard with | some c => be4 c | none => [0, 0, 0, 0]) ++ be1 r.missed ++ be1 r.tamper ++
    (match r.lastStatus with
      | some st => be1 (128 * st.lamp.toNat + 64 * st.lid.toNat + 8 * st.spare.toNat + st.battery.toNat)
      | none => [0]) ++ [0, 0] := by
  have hstate : (Kit.enrolled r).stateCode = if r.heldHours = none then 1 else 2 := by
    cases h : r.heldHours <;> simp [Kit.stateCode, h]
  have hmove : be2 ((r.moveIssue.map BitVec.toNat).getD 0) = match r.moveIssue with
      | some mi => be2 mi.toNat | none => [0, 0] := by cases r.moveIssue <;> rfl
  have hheld : be2 (r.heldHours.getD 0) = match r.heldHours with | some h => be2 h | none => [0, 0] := by
    cases r.heldHours <;> rfl
  have hconf : be2 ((r.confirmed.map BitVec.toNat).getD 0) = match r.confirmed with
      | some i => be2 i.toNat | none => [0, 0] := by cases r.confirmed <;> rfl
  have hsent : be4 (r.lastSent.getD 0) = match r.lastSent with | some c => be4 c | none => [0, 0, 0, 0] := by
    cases r.lastSent <;> rfl
  have hheard : be4 (r.lastHeard.getD 0) = match r.lastHeard with | some c => be4 c | none => [0, 0, 0, 0] := by
    cases r.lastHeard <;> rfl
  have hstatus : [(r.lastStatus.map KitStatus.byte).getD 0] = match r.lastStatus with
      | some st => be1 (128 * st.lamp.toNat + 64 * st.lid.toNat + 8 * st.spare.toNat + st.battery.toNat)
      | none => [0] := by cases r.lastStatus <;> rfl
  have hflags : ofBits [true, r.moveIssue.isSome, r.heldHours.isSome, r.confirmed.isSome, r.lastSent.isSome,
      r.lastHeard.isSome, r.lastStatus.isSome, u] =
      1 + 2 * r.moveIssue.isSome.toNat + 4 * r.heldHours.isSome.toNat + 8 * r.confirmed.isSome.toNat +
        16 * r.lastSent.isSome.toNat + 32 * r.lastHeard.isSome.toNat + 64 * r.lastStatus.isSome.toNat + 128 * u.toNat := by
    simp only [ofBits, Bool.toNat_true]; omega
  have hmarks : ofBits [r.answers, !r.settled, r.unlock, r.notify, r.moveSent, r.silentReported] =
      r.answers.toNat + 2 * (!r.settled).toNat + 4 * r.unlock.toNat + 8 * r.notify.toNat +
        16 * r.moveSent.toNat + 32 * r.silentReported.toNat := by
    simp only [ofBits]; omega
  simp only [readKitBody, hstate, hmove, hheld, hconf, hsent, hheard, hstatus, hflags, hmarks]
  rfl

/-- Settles O40: the two reports, laid out byte by byte. -/
theorem statusAndReadKitChangeNothing : Obligations.StatusAndReadKitChangeNothing := by
  refine ⟨fun s tag p h => ⟨Config.idleWalkIndex.toNat, Nat.le_of_lt_succ Config.idleWalkIndex.isLt, ?_⟩,
    fun s tag p h => ⟨fun hk => exec_answered h nofun (if_pos hk), fun hk =>
      ⟨readKitBody (s.kit (field p 0 2)) (s.unsaved (field p 0 2)), length_readKitBody _ _,
        exec_answered h nofun (if_neg (Nat.not_le.2 (Nat.lt_succ_of_le hk))), fun hf => by rw [hf]; rfl,
        fun hd => by rw [hd]; rfl, fun r hr => by rw [hr]; exact readKitBody_enrolled r _⟩⟩⟩
  dsimp only
  rw [← pendingCount_eq (fun _ => rfl) (fun _ => rfl) (fun _ _ => rfl),
    ← damagedCount_eq (fun _ => rfl) (fun _ => rfl) (fun _ _ => rfl)]
  exact exec_answered h nofun rfl

/-! ### SET CLOCK (R5, R6) -/

theorem radioQuiet_iff (s : State) : s.radioQuiet = true ↔
    s.builder.onAir = none ∧ s.builder.rolls = [] ∧ s.framer.window = none := by
  simp [State.radioQuiet, and_assoc]

/-- Settles O44, by the tests of the rule in their order. -/
theorem setClockSetsTheClock : Obligations.SetClockSetsTheClock := by
  intro s tag p h
  dsimp only
  rw [← radioQuiet_iff]
  have hrule : ruleOf .setClock tag p (State.waiting s) = if !s.radioQuiet then
      (State.waiting s).answerNow .setClock tag p .state (be1 s.link.op.code)
    else if 59 < field p 3 1 then (State.waiting s).answerNow .setClock tag p .range []
    else ((State.waiting s).onClock fun _ => setClockTo (field p 0 3) (field p 3 1)).answerNow .setClock tag p .ok [] := rfl
  refine ⟨fun hq => exec_answered h nofun ?_, fun hq hc => exec_answered h nofun ?_, fun hq hc => ?_⟩
  · rw [hrule, if_pos (by simpa using hq)]
  · rw [hrule, if_neg (by simpa using hq), if_pos hc]
  · have hrun : exec (.setClock tag p) s = .next (ruleOf .setClock tag p (State.waiting s)) := exec_ready h
    rw [hrun, hrule, if_neg (by simpa using hq), if_neg (Nat.not_lt.2 hc)]
    rfl

end Sys2Proof.Proofs
end

section
/-! PROOFS. Writes of the record store that fail: the write a reset pin or a power loss cuts, and the attempts that end in a
retry or in a store fault (R8, R13, R144, R148, R149, R151, R152). -/

namespace Sys2Proof.Proofs

open Sys2Proof Sys2Proof.Machine Sys2Proof.Laws

/-! ### The bytes of a target's place (R144) -/

theorem length_fitTo (n : Nat) (bs : List Byte) : (fitTo n bs).length = n := by
  simp [fitTo]

/-- A run of the right length is written as it is. -/
theorem fitTo_of_length {n : Nat} {bs : List Byte} (h : bs.length = n) : fitTo n bs = bs := by
  subst h
  simp [fitTo]

/-- Bytes that come to a target's place leave every other byte of the memory. -/
theorem memoryKeptBut_memoryHolds (s : State) (t : StoreTarget) (bs : List Byte) :
    s.memoryKeptBut (s.memoryHolds t bs) (targetPlace t).1 (targetPlace t).2 := by
  intro x hx
  show readByte (writeRun _ _ _) x = _
  rw [readByte_writeRun]
  split
  · rw [List.getElem?_eq_none (by rw [length_fitTo]; omega)]
    rfl
  · rfl

/-- Bytes that come to a target's place stand there. -/
theorem readByte_memoryHolds (s : State) (t : StoreTarget) {bs : List Byte} (h : bs.length = (targetPlace t).2) {i : Nat}
    (hi : i < bs.length) : readByte (s.memoryHolds t bs).store.cells ((targetPlace t).1 + i) = bs[i] := by
  show readByte (writeRun _ _ _) _ = _
  rw [readByte_writeRun, if_pos (Nat.le_add_right _ _), fitTo_of_length h, Nat.add_sub_cancel_left,
    List.getElem?_eq_getElem hi]
  rfl

/-! ### A write that is cut (R149) -/

theorem length_tornBytes (tear : BitVec 64) (old new : List Byte) : (tornBytes tear old new).length = old.length := by
  simp [tornBytes]

/-- A torn byte is the old one or the new one. -/
theorem getElem_tornBytes {tear : BitVec 64} {old new : List Byte} (h : new.length = old.length) {i : Nat}
    (hi : i < (tornBytes tear old new).length) :
    some (tornBytes tear old new)[i] = old[i]? ∨ some (tornBytes tear old new)[i] = new[i]? := by
  have ho : i < old.length := by rwa [length_tornBytes] at hi
  have hn : i < new.length := by omega
  simp only [tornBytes, List.getElem_map, List.getElem_range]
  split
  · right; simp [hn]
  · left; simp [ho]

/-- Of a cut write of a place, every byte elsewhere is kept, and each byte of the place is the old one or the image's. -/
theorem cut_place (s : State) (t : StoreTarget) (tear : BitVec 64) {image : List Byte} (h : image.length = (targetPlace t).2) :
    let u := s.memoryHolds t (tornBytes tear (s.memoryAt t) image)
    s.memoryKeptBut u (targetPlace t).1 (targetPlace t).2 ∧ ∀ i, i < (targetPlace t).2 →
      readByte u.store.cells ((targetPlace t).1 + i) = readByte s.store.cells ((targetPlace t).1 + i) ∨
        some (readByte u.store.cells ((targetPlace t).1 + i)) = image[i]? := by
  have hold : (s.memoryAt t).length = (targetPlace t).2 := length_readRun _ _ _
  have htorn : (tornBytes tear (s.memoryAt t) image).length = (targetPlace t).2 := by rw [length_tornBytes, hold]
  refine ⟨memoryKeptBut_memoryHolds s t _, fun i hi => ?_⟩
  rw [readByte_memoryHolds s t htorn (by omega)]
  refine (getElem_tornBytes (h.trans hold.symm) _).imp (fun he => ?_) id
  have hr : (s.memoryAt t)[i]? = some (readByte s.store.cells ((targetPlace t).1 + i)) :=
    (getElem?_readRun _ _ _ _).trans (if_pos hi)
  exact Option.some.inj (he.trans hr)

theorem cutWrite_writing {s : State} {k : Nat} {image : List Byte} {n : Nat} (tear : BitVec 64)
    (hm : s.store.mode = .writing k image n) :
    s.cutWrite tear = s.memoryHolds (.kit k) (tornBytes tear (s.memoryAt (.kit k)) image) := by
  rw [State.cutWrite, hm]

theorem cutWrite_saving {s : State} {image : List Byte} {n : Nat} (tear : BitVec 64)
    (hm : s.store.mode = .saving image n) :
    s.cutWrite tear = s.memoryHolds .settings (tornBytes tear (s.memoryAt .settings) image) := by
  rw [State.cutWrite, hm]

/-- With no write in progress nothing is cut. -/
theorem cutWrite_of_no_write {tear : BitVec 64} {s : State} (hw : ∀ k image n, s.store.mode ≠ .writing k image n)
    (hs : ∀ image n, s.store.mode ≠ .saving image n) : s.cutWrite tear = s := by
  unfold State.cutWrite
  split
  · rename_i hm; exact absurd hm (hw _ _ _)
  · rename_i hm; exact absurd hm (hs _ _)
  · rfl

/-- A cut write changes the memory only. -/
theorem cutWrite_rest (tear : BitVec 64) (s : State) :
    (s.cutWrite tear).pins = s.pins ∧ (s.cutWrite tear).pending = s.pending := by
  unfold State.cutWrite
  split <;> exact ⟨rfl, rfl⟩

/-- Both events leave the reset state with the cut write's memory, and a part that is not live. -/
theorem exec_cut {s : State} {tear : BitVec 64} {c : Instr} (hc : c = .resetPinAsserted tear ∨ c = .powerLoss tear) :
    ∃ pins : Pins, exec c s = .next { (s.cutWrite tear).blank with pins := pins } ∧
      (pins.power && !pins.resetPin) = false ∧
      (c = .resetPinAsserted tear → pins = { s.pins with resetPin := true }) ∧
      (c = .powerLoss tear → pins = { s.pins with power := false }) := by
  obtain ⟨hpins, -⟩ := cutWrite_rest tear s
  obtain rfl | rfl := hc
  · refine ⟨{ s.pins with resetPin := true }, ?_, Bool.and_false _, fun _ => rfl, nofun⟩
    rw [← hpins]; rfl
  · refine ⟨{ s.pins with power := false }, ?_, rfl, nofun, fun _ => rfl⟩
    rw [← hpins]; rfl

/-- Settles O6, by the state both events leave and the bytes of the place that was being written. -/
theorem resetPinAndPowerLossCutWhatIsInFlight : Obligations.ResetPinAndPowerLossCutWhatIsInFlight := by
  intro s tear c hc
  obtain ⟨pins, hrun, hlive, hreset, hpower⟩ := exec_cut (s := s) hc
  obtain ⟨-, hpending⟩ := cutWrite_rest tear s
  refine ⟨_, hrun, hlive, rfl, rfl, rfl, rfl, rfl, rfl, rfl, rfl, rfl, rfl, rfl, rfl, rfl, ?_, hreset, hpower,
    fun k image n hm hl => ?_, fun image n hm hl => ?_, fun hw hs => ?_⟩
  · rw [← hpending]; rfl
  · rw [cutWrite_writing tear hm]
    exact cut_place s (.kit k) tear hl
  · rw [cutWrite_saving tear hm]
    obtain ⟨hkept, hplace⟩ := cut_place s .settings tear hl
    simp only [targetPlace, Nat.zero_add] at hplace
    exact ⟨hkept, hplace⟩
  · rw [cutWrite_of_no_write hw hs]; rfl

/-! ### An attempt that fails (R148) -/

/-- The controller at an attempt of a target's write. -/
def attemptOf (image : List Byte) (n : Nat) : StoreTarget → StoreMode
  | .kit k => .writing k image n
  | .settings => .saving image n

/-- A failed attempt is followed by another, and the third by a store fault. -/
theorem attemptFailed_attempt {s : State} {t : StoreTarget} {image : List Byte} {n : Nat}
    (hm : s.store.mode = attemptOf image n t) (e : Bool) : s.attemptFailed e =
      if n < 3 then (s.onStore fun c => { c with mode := attemptOf image (n + 1) t }).raise .storeRetries
      else s.storeFault t e := by
  cases t <;> rw [State.attemptFailed, hm] <;> rfl

/-- A read back of something else, or the memory in error, leaves bytes at the place and fails the attempt. -/
theorem exec_attempt_failed {s : State} {t : StoreTarget} {image : List Byte} {n : Nat} {c : Instr} {e : Bool}
    (hl : s.clocked = true) (hm : s.store.mode = attemptOf image n t)
    (hc : (∃ bs, c = .storeAttemptComplete (.readBack bs) ∧ bs.length = (targetPlace t).2 ∧ bs ≠ image ∧ e = false) ∨
      ∃ left, (c = .storeAttemptComplete (.inError left) ∨ c = .storeMemoryTimeout left) ∧ e = true) :
    ∃ bs, exec c s = .next ((s.memoryHolds t bs).attemptFailed e) := by
  have hlive : s.live = true := by
    simp only [State.clocked, Bool.and_eq_true] at hl
    exact hl.1
  obtain ⟨bs, rfl, hlen, hne, rfl⟩ | ⟨left, rfl | rfl, rfl⟩ := hc
  · refine ⟨bs, ?_⟩
    show execStoreAttemptComplete (.readBack bs) s = _
    have hfit : fitTo (targetPlace t).2 bs ≠ image := by rwa [fitTo_of_length hlen]
    rw [execStoreAttemptComplete, if_pos hlive]
    cases t <;> simp only [State.attemptReadBack, hm, attemptOf] <;> exact congrArg _ (if_neg hfit)
  · refine ⟨left, ?_⟩
    show execStoreAttemptComplete (.inError left) s = _
    rw [execStoreAttemptComplete, if_pos hlive]
    cases t <;> simp only [State.attemptInError, hm, attemptOf]
  · refine ⟨left, ?_⟩
    show execStoreMemoryTimeout left s = _
    rw [execStoreMemoryTimeout, if_pos hl]
    cases t <;> simp only [State.memoryTimeout, State.attemptInError, hm, attemptOf]

/-! ### The store fault (R13, R151) -/

/-- The part with the handler's request, if one waits, and its frame dropped. -/
def State.handlerCleared (s : State) : State :=
  match s.handler with
  | .idle => s
  | .stalled _ _ => State.frameDropped s

/-- A withdrawn handler's request is dropped with its frame, and rolls may close over it (R125). -/
theorem airActs_withdrawHandler (s : State) : AirActs (State.handlerCleared s) s.withdrawHandler := by
  unfold State.handlerCleared State.withdrawHandler
  cases s.handler with
  | idle => exact .refl
  | stalled q second => exact airActs_finishFrame s

/-- The acts of a withdrawn request keep the buffers. -/
theorem builder_withdrawHandler (s : State) : s.withdrawHandler.builder.preparing = s.builder.preparing ∧
    s.withdrawHandler.builder.ready = s.builder.ready ∧ s.withdrawHandler.builder.onAir = s.builder.onAir := by
  rcases withdrawHandler_cases s with ⟨-, h⟩ | ⟨-, h⟩ <;> rw [h]
  · exact ⟨rfl, rfl, rfl⟩
  · rw [State.finishFrame, builder_closeDone]
    exact ⟨rfl, rfl, rfl⟩

theorem handlerCleared_handler (s : State) : (State.handlerCleared s).handler = .idle := by
  unfold State.handlerCleared
  split
  · assumption
  · rfl

theorem handlerCleared_rest (s : State) : (State.handlerCleared s).walk = s.walk ∧
    (State.handlerCleared s).link = s.link ∧ (State.handlerCleared s).roster = s.roster := by
  unfold State.handlerCleared
  split <;> exact ⟨rfl, rfl, rfl⟩

/-- What a withdrawn request keeps, and that the handler is then idle. -/
theorem withdrawHandler_kept (s : State) : s.withdrawHandler.handler = .idle ∧ s.withdrawHandler.walk = s.walk ∧
    s.withdrawHandler.link.hand = s.link.hand ∧ s.withdrawHandler.link.replies = s.link.replies ∧
    s.link.notices <+: s.withdrawHandler.link.notices ∧ ∀ j, (s.kit j).sameStored (s.withdrawHandler.kit j) := by
  have k := (airActs_withdrawHandler s).kept
  obtain ⟨hw, hl, hr⟩ := handlerCleared_rest s
  refine ⟨k.handler.trans (handlerCleared_handler s), k.walk.trans hw, by rw [k.hand, hl], by rw [k.replies, hl],
    by rw [← hl]; exact k.notices, fun j => ?_⟩
  rw [← kit_congr hr j]
  exact k.stored j

/-- An ended walk posts its notice and is held no longer (R66). -/
theorem walkAborted_kept (s : State) : (State.walkAborted s).walk = none ∧ (State.walkAborted s).builder = s.builder ∧
    (State.walkAborted s).roster = s.roster ∧ (State.walkAborted s).link.hand = s.link.hand ∧
    (State.walkAborted s).link.replies = s.link.replies ∧ s.link.notices <+: (State.walkAborted s).link.notices := by
  unfold State.walkAborted
  split
  · exact ⟨rfl, rfl, rfl, post_link_hand _ _ _, post_link_replies _ _ _, post_notices_prefix (s.setWalk none) _ _⟩
  · exact ⟨by assumption, rfl, rfl, rfl, rfl, List.prefix_refl _⟩

/-- The command in hand is answered, and nothing else of the part changes. -/
theorem handRefused_kept (s : State) : (State.handRefused s).walk = s.walk ∧ (State.handRefused s).builder = s.builder ∧
    (State.handRefused s).roster = s.roster ∧ (State.handRefused s).handler = s.handler ∧
    (State.handRefused s).link.hand = none ∧ (State.handRefused s).link.notices = s.link.notices := by
  unfold State.handRefused
  split
  · exact ⟨rfl, rfl, rfl, rfl, rfl, rfl⟩
  · exact ⟨rfl, rfl, rfl, rfl, by assumption, rfl⟩

theorem handRefused_replies (s : State) : (s.link.hand = none → (State.handRefused s).link.replies = s.link.replies) ∧
    ∀ h, s.link.hand = some h → (State.handRefused s).link.replies =
      s.link.replies ++ [replyTo h.kind h.tag .faulted (enrolledTail h.kind h.enrolled)] := by
  unfold State.handRefused
  split
  · rename_i h hh
    refine ⟨fun hn => absurd (hh.symm.trans hn) nofun, fun h' hh' => ?_⟩
    obtain rfl := Option.some.inj (hh.symm.trans hh')
    rfl
  · rename_i hn
    exact ⟨fun _ => rfl, fun h hh => absurd (hh.symm.trans hn) nofun⟩

/-- What a store fault makes of the radio, the walk, the handler and the command in hand (R13). -/
theorem storeFault_rest (t : StoreTarget) (e : Bool) (s : State) :
    (s.storeFault t e).walk = none ∧ (s.storeFault t e).builder.preparing = none ∧
      (s.storeFault t e).builder.ready = none ∧ (s.storeFault t e).builder.onAir = s.builder.onAir ∧
      (s.storeFault t e).handler = .idle ∧ (s.storeFault t e).link.hand = none ∧
      ∀ j, (s.kit j).sameStored ((s.storeFault t e).kit j) := by
  obtain ⟨hwalk, hbuilder, hroster, -, -, -⟩ := walkAborted_kept (State.controllerStopped t e s)
  obtain ⟨kidle, kwalk, -, -, -, kstored⟩ := withdrawHandler_kept (State.walkAborted (State.controllerStopped t e s))
  obtain ⟨kprep, kready, kair⟩ := builder_withdrawHandler (State.walkAborted (State.controllerStopped t e s))
  obtain ⟨fwalk, fbuilder, froster, fhandler, fhand, -⟩ :=
    handRefused_kept (State.walkAborted (State.controllerStopped t e s)).withdrawHandler
  rw [storeFault_eq, fwalk, fbuilder, fhandler, kwalk, kprep, kready, kair, hbuilder]
  refine ⟨hwalk, rfl, rfl, rfl, kidle, fhand, fun j => ?_⟩
  rw [kit_congr froster, show s.kit j = (State.walkAborted (State.controllerStopped t e s)).kit j from
    (kit_congr hroster j).symm]
  exact kstored j

/-- The replies after a store fault: those before it, and FAULTED to the command in hand (R13). -/
theorem storeFault_replies (t : StoreTarget) (e : Bool) (s : State) :
    (s.link.hand = none → (s.storeFault t e).link.replies = s.link.replies) ∧
    ∀ h, s.link.hand = some h → (s.storeFault t e).link.replies =
      s.link.replies ++ [replyTo h.kind h.tag .faulted (enrolledTail h.kind h.enrolled)] := by
  obtain ⟨-, -, -, whand, wreplies, -⟩ := walkAborted_kept (State.controllerStopped t e s)
  obtain ⟨-, -, khand, kreplies, -, -⟩ := withdrawHandler_kept (State.walkAborted (State.controllerStopped t e s))
  obtain ⟨hnone, hsome⟩ := handRefused_replies (State.walkAborted (State.controllerStopped t e s)).withdrawHandler
  have hh : (State.controllerStopped t e s).link.hand = s.link.hand := post_link_hand _ _ _
  have hr : (State.controllerStopped t e s).link.replies = s.link.replies := post_link_replies _ _ _
  rw [khand, whand, hh, kreplies, wreplies, hr] at hnone
  rw [khand, whand, hh, kreplies, wreplies, hr] at hsome
  exact ⟨hnone, hsome⟩

/-- The notice of a store fault (R151). -/
def faultNotice (t : StoreTarget) (e : Bool) (c : Clock) : Notice where
  kind := .storeFault (t == .settings) e
  dh := c.dh
  cycle := c.cycle
  kit := match t with
    | .kit k => some k
    | .settings => none

/-- The notice of a walk that is ended as aborted (R67). -/
def abortedNotice (w : Walk) (c : Clock) : Notice where
  kind := .graceDone w.number w.changed w.next true
  dh := c.dh
  cycle := c.cycle
  kit := none

/-- STORE FAULT joins the tail of the notices where there is room, and a walk's GRACE DONE behind it. -/
theorem storeFault_notices (t : StoreTarget) (e : Bool) (s : State) :
    (s.walk = none → s.link.notices.length < 32 →
      s.link.notices ++ [faultNotice t e s.clock] <+: (s.storeFault t e).link.notices) ∧
    ∀ w, s.walk = some w → s.link.notices.length < 31 →
      s.link.notices ++ [faultNotice t e s.clock, abortedNotice w s.clock] <+: (s.storeFault t e).link.notices := by
  obtain ⟨-, -, -, -, knotices, -⟩ := withdrawHandler_kept (State.walkAborted (State.controllerStopped t e s))
  obtain ⟨-, -, -, -, -, fnotices⟩ :=
    handRefused_kept (State.walkAborted (State.controllerStopped t e s)).withdrawHandler
  have hstop : s.link.notices.length < 32 →
      (State.controllerStopped t e s).link.notices = s.link.notices ++ [faultNotice t e s.clock] := fun h =>
    post_notices (s := s.onStore fun c => { c with mode := .stopped t }) h _ _
  rw [storeFault_eq, fnotices]
  refine ⟨fun hw hroom => ?_, fun w hw hroom => ?_⟩
  · obtain ⟨-, -, -, -, -, wnotices⟩ := walkAborted_kept (State.controllerStopped t e s)
    rw [← hstop hroom]
    exact wnotices.trans knotices
  · have hwalk : State.walkAborted (State.controllerStopped t e s) = (State.controllerStopped t e s).endWalk w true := by
      rw [State.walkAborted, show (State.controllerStopped t e s).walk = some w from hw]
    rw [hwalk, State.endWalk] at knotices
    have hroom' := hstop (by omega)
    rw [post_notices (by rw [setWalk_link, hroom']; simp; omega), setWalk_link, hroom', List.append_assoc] at knotices
    exact hwalk ▸ knotices

/-- Settles O28, by the failed attempt's two outcomes and the acts of the store fault one after another. -/
theorem thirdFailedAttemptFaultsThePart : Obligations.ThirdFailedAttemptFaultsThePart := by
  intro s target image n c inError hl attempt place failed notice hm hc
  have hplace : place = targetPlace target := by cases target <;> rfl
  have hattempt : ∀ n, attempt n = attemptOf image n target := fun n => by cases target <;> rfl
  have hnotice : notice failed = faultNotice target inError s.clock := by cases target <;> rfl
  rw [hattempt] at hm
  rw [hplace] at hc ⊢
  obtain ⟨bs, hrun⟩ := exec_attempt_failed hl hm hc
  rw [attemptFailed_attempt (s := s.memoryHolds target bs) hm] at hrun
  refine ⟨_, hrun, ?_⟩
  have hkept := memoryKeptBut_memoryHolds s target bs
  by_cases hn : n < 3
  · rw [if_pos hn]
    exact ⟨hkept, rfl, fun j => Kit.sameStored_refl _, fun _ => ⟨(hattempt _).symm, rfl⟩, fun h => absurd hn (Nat.not_lt.2 h)⟩
  · rw [if_neg hn, hnotice]
    obtain ⟨hstore, hop⟩ := storeFault_store target inError (s.memoryHolds target bs)
    obtain ⟨hwalk, hprep, hready, hair, hidle, hhand, hstored⟩ := storeFault_rest target inError (s.memoryHolds target bs)
    obtain ⟨hnone, hsome⟩ := storeFault_replies target inError (s.memoryHolds target bs)
    obtain ⟨hnow, hwith⟩ := storeFault_notices target inError (s.memoryHolds target bs)
    refine ⟨fun x hx => by rw [hstore]; exact hkept x hx, by rw [hstore]; rfl, hstored, fun h => absurd h hn, fun _ =>
      ⟨by rw [hstore], hop, hwalk, hprep, hready, hair, hidle, hhand, fun k hk => ?_, hnow, hwith, hnone, hsome⟩⟩
    rw [State.unsaved, hstore, hk]
    simp

end Sys2Proof.Proofs
end

section
/-! PROOFS. The selection act (R76, R79 to R84, R91 to R93): what the pattern pass, the remainder fill and the audit fill
choose, and the burst a preparation begins with. -/

namespace Sys2Proof.Proofs

open Sys2Proof Sys2Proof.Machine Sys2Proof.Laws

/-! ### Kits with their classes (R76) -/

/-- The kits of a list that have a class, each with it. -/
def classed (f : Nat → Option Machine.Class) (l : List Nat) : List (Nat × Machine.Class) :=
  l.filterMap fun k => (f k).map fun c => (k, c)

theorem classed_cons (f : Nat → Option Machine.Class) (k : Nat) (l : List Nat) :
    classed f (k :: l) = ((f k).map fun c => (k, c)).toList ++ classed f l := by
  cases h : f k <;> simp [classed, h]

theorem classAt_enrolled (g : Settings) (target : Nat) (r : KitRec) :
    (Kit.enrolled r).classAt g target = classOf g target r := by
  simp only [Kit.classAt, classOf, interval, KitRec.replies]
  split
  · rfl
  · congr 1
    cases r.answers <;> cases g.uplink <;> simp

/-- The candidates of a selection are the kits of the slot's list that have a class at the target cycle. -/
theorem candidates_eq (s : State) (slot target : Nat) :
    s.candidates slot target = classed (fun k => (s.kit k).classAt s.settings target) (s.list slot) := by
  unfold State.candidates classed
  refine List.filterMap_congr fun k _ => ?_
  dsimp only
  cases s.kit k with
  | free => rfl
  | damaged => rfl
  | enrolled r => rw [classAt_enrolled]

/-- The oldest kit of a class that is not chosen, found among the candidates and in the list. -/
theorem find?_classed (f : Nat → Option Machine.Class) (c : Machine.Class) (chosen l : List Nat) :
    ((classed f l).find? fun e => e.2 = c && !chosen.contains e.1).map (·.1) =
      l.find? fun k => f k = some c ∧ k ∉ chosen := by
  induction l with
  | nil => rfl
  | cons k l ih =>
    rw [classed_cons, List.find?_cons]
    cases hf : f k with
    | none => simpa using ih
    | some c' =>
      by_cases hc : c' = c ∧ k ∉ chosen
      · simp [hc]
      · have hc' : (decide (c' = c) && !chosen.contains k) = false := by simpa using hc
        simp only [Option.map_some, Option.toList_some, List.singleton_append, List.find?_cons, hc', Option.some.injEq, hc,
          decide_false]
        exact ih

/-! ### The pattern pass (R80) -/

theorem filterMap_id_cons (o : Option Nat) (steps : List (Option Nat)) :
    (o :: steps).filterMap id = o.toList ++ steps.filterMap id := by
  cases o <;> rfl

/-- What a step of the pattern chooses from the list. -/
def chosenBy (f : Nat → Option Machine.Class) (l chosen : List Nat) (st : PatternStep) : Option Nat :=
  if st.veto then none else l.find? fun k => f k = some st.cls ∧ k ∉ chosen

theorem stepChoice_some (f : Nat → Option Machine.Class) (l chosen : List Nat) (st : PatternStep) :
    stepChoice (some st) (classed f l) chosen = (chosenBy f l chosen st).toList := by
  unfold stepChoice chosenBy
  dsimp only
  split
  · rfl
  · rw [find?_classed]

/-- The pattern pass takes steps from the pointer on, each choosing from the list, until it has taken all of them or enough
kits are chosen. -/
theorem patternPass_steps {pat : List PatternStep} (hpat : pat.length = 16) (f : Nat → Option Machine.Class) (l : List Nat)
    (p n : Nat) {ptr : Nat} (hptr : ptr < 16) (chosen : List Nat) : ∃ steps : List (Option Nat),
      patternPass pat (classed f l) p n ptr chosen = ((ptr + steps.length) % 16, chosen ++ steps.filterMap id) ∧
      steps.length ≤ n ∧ (steps.length = n ∨ p ≤ (chosen ++ steps.filterMap id).length) ∧
      ∀ i, i < steps.length → (chosen ++ (steps.take i).filterMap id).length < p ∧
        ∃ st, pat[(ptr + i) % 16]? = some st ∧
          steps[i]? = some (chosenBy f l (chosen ++ (steps.take i).filterMap id) st) := by
  induction n generalizing ptr chosen with
  | zero => exact ⟨[], by simp [patternPass, Nat.mod_eq_of_lt hptr], Nat.le_refl _, .inl rfl, nofun⟩
  | succ n ih =>
    by_cases hp : p ≤ chosen.length
    · exact ⟨[], by simp [patternPass, hp, Nat.mod_eq_of_lt hptr], Nat.zero_le _, .inr (by simpa using hp), nofun⟩
    · have hst : pat[ptr]? = some pat[ptr] := List.getElem?_eq_getElem (by omega)
      have hnext := stepChoice_some f l chosen pat[ptr]
      obtain ⟨steps, heq, hlen, hend, hall⟩ :=
        ih (ptr := (ptr + 1) % 16) (Nat.mod_lt _ (by omega)) (chosen ++ (chosenBy f l chosen pat[ptr]).toList)
      refine ⟨chosenBy f l chosen pat[ptr] :: steps, ?_, by simpa using hlen, ?_, fun i hi => ?_⟩
      · rw [patternPass, if_neg hp, hst, hnext, heq, filterMap_id_cons, List.append_assoc, List.length_cons]
        congr 1
        omega
      · rw [filterMap_id_cons, ← List.append_assoc, List.length_cons]
        exact hend.imp (congrArg (· + 1)) id
      · cases i with
        | zero => exact ⟨by simpa using hp, pat[ptr], by rw [Nat.add_zero, Nat.mod_eq_of_lt hptr, hst], by simp⟩
        | succ i =>
          obtain ⟨hroom, st, hpst, hsteps⟩ := hall i (by simpa using hi)
          rw [List.take_succ_cons, filterMap_id_cons, ← List.append_assoc, List.getElem?_cons_succ]
          refine ⟨hroom, st, ?_, hsteps⟩
          rw [← hpst]
          congr 1
          omega

/-- Kits chosen from a list: none twice, and each with a class. -/
def Picked (f : Nat → Option Machine.Class) (l chosen : List Nat) : Prop :=
  chosen.Nodup ∧ ∀ k ∈ chosen, k ∈ l ∧ (f k).isSome = true

theorem picked_nil (f : Nat → Option Machine.Class) (l : List Nat) : Picked f l [] := ⟨List.nodup_nil, nofun⟩

/-- What joins the chosen kits, itself chosen from the list and new, leaves them chosen. -/
theorem picked_append {f : Nat → Option Machine.Class} {l chosen new : List Nat} (h : Picked f l chosen)
    (h' : Picked f l new) (hnew : ∀ k ∈ new, k ∉ chosen) : Picked f l (chosen ++ new) :=
  ⟨List.nodup_append.2 ⟨h.1, h'.1, fun _ ha b hb hab => hnew b hb (hab ▸ ha)⟩,
    fun k hk => (List.mem_append.1 hk).elim (h.2 k) (h'.2 k)⟩

theorem picked_chosenBy {f : Nat → Option Machine.Class} {l chosen : List Nat} (h : Picked f l chosen) (st : PatternStep) :
    Picked f l (chosen ++ (chosenBy f l chosen st).toList) := by
  cases hc : chosenBy f l chosen st with
  | none => simpa using h
  | some k =>
    have hk : k ∈ l ∧ f k = some st.cls ∧ k ∉ chosen := by
      unfold chosenBy at hc
      split at hc
      · cases hc
      · exact ⟨List.mem_of_find?_eq_some hc, by simpa using List.find?_some hc⟩
    obtain ⟨hl, hf, hn⟩ := hk
    refine picked_append h ⟨List.nodup_singleton k, fun j hj => ?_⟩ fun j hj => ?_ <;>
      rw [Option.toList_some, List.mem_singleton] at hj <;> subst hj
    · exact ⟨hl, by rw [hf]; rfl⟩
    · exact hn

theorem picked_patternPass {f : Nat → Option Machine.Class} {l : List Nat} {pat : List PatternStep} {p : Nat} (n ptr : Nat)
    {chosen : List Nat} (h : Picked f l chosen) : Picked f l (patternPass pat (classed f l) p n ptr chosen).2 := by
  induction n generalizing ptr chosen with
  | zero => exact h
  | succ n ih =>
    unfold patternPass
    split
    · exact h
    · refine ih _ ?_
      cases pat[ptr]? with
      | none => simpa [stepChoice] using h
      | some st => rw [stepChoice_some]; exact picked_chosenBy h st

/-- The pattern pass chooses no more kits than a burst holds. -/
theorem length_patternPass_le {pat : List PatternStep} {cands : List (Nat × Machine.Class)} {p : Nat} (n ptr : Nat)
    {chosen : List Nat} (h : chosen.length ≤ p) : (patternPass pat cands p n ptr chosen).2.length ≤ p := by
  induction n generalizing ptr chosen with
  | zero => exact h
  | succ n ih =>
    unfold patternPass
    split
    · exact h
    · refine ih _ ?_
      have hone : (stepChoice pat[ptr]? cands chosen).length ≤ 1 := by
        unfold stepChoice
        split
        · exact Nat.zero_le _
        · split
          · exact Nat.zero_le _
          · exact Option.length_toList_le
      rw [List.length_append]
      omega

/-! ### The remainder fill (R81) -/

theorem remainderFill_cons (e : Nat × Machine.Class) (cands : List (Nat × Machine.Class)) (p : Nat) (chosen : List Nat) :
    remainderFill (e :: cands) p chosen =
      remainderFill cands p (if chosen.length < p ∧ e.1 ∉ chosen then chosen ++ [e.1] else chosen) := by
  simp [remainderFill]

theorem length_remainderFill_le {cands : List (Nat × Machine.Class)} {p : Nat} {chosen : List Nat} (h : chosen.length ≤ p) :
    (remainderFill cands p chosen).length ≤ p := by
  induction cands generalizing chosen with
  | nil => exact h
  | cons c cands ih =>
    rw [remainderFill_cons]
    refine ih ?_
    split
    · rename_i hc
      rw [List.length_append, List.length_singleton]
      exact hc.1
    · exact h

/-- The remainder fill adds the oldest kits of any class that are not chosen, as many as there is room for. -/
theorem remainderFill_classed (f : Nat → Option Machine.Class) (p : Nat) {l : List Nat} (hl : l.Nodup) (chosen : List Nat) :
    remainderFill (classed f l) p chosen =
      chosen ++ (l.filter fun k => (f k).isSome ∧ k ∉ chosen).take (p - chosen.length) := by
  induction l generalizing chosen with
  | nil => simp [remainderFill, classed]
  | cons k l ih =>
    obtain ⟨hk, hl⟩ := List.nodup_cons.1 hl
    have ih := ih hl
    rw [classed_cons]
    cases hf : f k with
    | none => simpa [hf] using ih chosen
    | some c =>
      rw [Option.map_some, Option.toList_some, List.singleton_append, remainderFill_cons]
      by_cases hc : k ∈ chosen
      · simpa [hf, hc] using ih chosen
      · by_cases hp : chosen.length < p
        · have hrest : (l.filter fun j => (f j).isSome ∧ j ∉ chosen ++ [k]) =
              l.filter fun j => (f j).isSome ∧ j ∉ chosen := by
            refine List.filter_congr fun j hj => ?_
            have hjk : j ≠ k := fun h => hk (h ▸ hj)
            simp [hjk]
          have hroom : p - chosen.length = (p - (chosen.length + 1)) + 1 := by omega
          rw [if_pos ⟨hp, hc⟩, ih (chosen ++ [k]), hrest, List.filter_cons_of_pos (by simp [hf, hc]), hroom,
            List.take_succ_cons, List.length_append, List.length_singleton, List.append_assoc, List.singleton_append]
        · have hroom : p - chosen.length = 0 := by omega
          rw [if_neg fun h => hp h.1, ih chosen, hroom, List.take_zero, List.take_zero]

/-- The kits a remainder fill adds are of the list, have a class and are not chosen before. -/
theorem picked_remainder {f : Nat → Option Machine.Class} {l : List Nat} (hl : l.Nodup) {chosen : List Nat}
    (h : Picked f l chosen) (n : Nat) :
    Picked f l (chosen ++ (l.filter fun k => (f k).isSome ∧ k ∉ chosen).take n) := by
  have hmem : ∀ k ∈ (l.filter fun k => (f k).isSome ∧ k ∉ chosen).take n, k ∈ l ∧ (f k).isSome = true ∧ k ∉ chosen :=
    fun k hk => by simpa using List.mem_filter.1 (List.mem_of_mem_take hk)
  exact picked_append h ⟨(hl.filter _).sublist (List.take_sublist _ _), fun k hk => ⟨(hmem k hk).1, (hmem k hk).2.1⟩⟩
    fun k hk => (hmem k hk).2.2

end Sys2Proof.Proofs
end

section
/-! PROOFS. The preparation (R79, R82 to R84, R91 to R93): the audit fill, the entries of a burst, and that a preparation
begins with the selection act of its slot. -/

namespace Sys2Proof.Proofs

open Sys2Proof Sys2Proof.Machine Sys2Proof.Laws

/-! ### The audit fill (R82) -/

theorem auditedAt_enrolled (g : Settings) (slot target : Nat) (r : KitRec) :
    (Kit.enrolled r).auditedAt g slot target = (r.listen == slot && auditDue g target r) := by
  show (r.listen == slot && r.settled && r.answers && _) = _
  cases r.listen == slot <;> rfl

/-- The lap an audit fill makes: the numbers of the roster from the audit pointer on, and then those before it. -/
def State.auditLapFrom (s : State) (ptr : Nat) : List Nat :=
  ((s.roster.map Prod.fst).filter fun k => ptr ≤ k) ++ (s.roster.map Prod.fst).filter fun k => k < ptr

/-- An entry of a canonical roster is what the roster reads at its number. -/
theorem kit_of_mem_roster {s : State} (hc : canonical .free s.roster = true) {e : Nat × Kit} (h : e ∈ s.roster) :
    s.kit e.1 = e.2 :=
  ((mem_iff_lookupAt hc e.1 e.2).1 h).1

/-- The kits a lap may choose are those of the lap that are due for audit. -/
theorem auditable_eq {s : State} (hc : canonical .free s.roster = true) (slot target ptr : Nat) :
    s.auditable slot target ptr =
      (State.auditLapFrom s ptr).filter fun k => (s.kit k).auditedAt s.settings slot target := by
  have hlap : State.auditLapFrom s ptr = (auditLap s.roster ptr).map Prod.fst := by
    simp [State.auditLapFrom, auditLap, List.filter_map, Function.comp_def]
  have hmem : ∀ e ∈ auditLap s.roster ptr, e ∈ s.roster := fun e he =>
    (List.mem_append.1 he).elim (fun h => (List.mem_filter.1 h).1) fun h => (List.mem_filter.1 h).1
  rw [hlap, State.auditable, List.filter_map, ← List.filterMap_eq_filter, List.map_filterMap]
  refine List.filterMap_congr fun e he => ?_
  have hk := kit_of_mem_roster hc (hmem e he)
  obtain ⟨k, kit⟩ := e
  cases kit with
  | free => simp [hk, Kit.auditedAt]
  | damaged => simp [hk, Kit.auditedAt]
  | enrolled r =>
    have hd := auditedAt_enrolled s.settings slot target r
    cases hdue : (r.listen == slot && auditDue s.settings target r) <;> rw [hdue] at hd <;>
      simp_all [Option.guard]

theorem nodup_auditLapFrom {s : State} (hc : canonical .free s.roster = true) (ptr : Nat) :
    (State.auditLapFrom s ptr).Nodup := by
  have hnd : (s.roster.map Prod.fst).Nodup :=
    List.pairwise_map.2 (((canonical_iff _).1 hc).1.imp fun h => Nat.ne_of_lt h)
  refine List.nodup_append.2 ⟨hnd.filter _, hnd.filter _, fun j hj k hk hjk => ?_⟩
  have hle : ptr ≤ j := by simpa using (List.mem_filter.1 hj).2
  have hlt : k < ptr := by simpa using (List.mem_filter.1 hk).2
  omega

/-- The kits an audit fill with this much room chooses. -/
def State.auditPicks (s : State) (slot target room : Nat) : List Nat :=
  if 0 < s.settings.auditInterval ∧ s.settings.uplink = true then
    ((State.auditLapFrom s (lookupAt 0 s.scheduler.auditPtrs slot)).filter fun k =>
      (s.kit k).auditedAt s.settings slot target).take room
  else []

/-- What an audit fill chooses, and the pointer it leaves: behind the last kit that filled the burst, or where it was. -/
theorem auditFill_eq {s : State} (hc : canonical .free s.roster = true) (slot target room : Nat) :
    s.auditFill slot target room = (State.auditPicks s slot target room,
      if 0 < room ∧ (State.auditPicks s slot target room).length = room then
        ((State.auditPicks s slot target room).getLastD 0 + 1) % 4096
      else lookupAt 0 s.scheduler.auditPtrs slot) := by
  unfold State.auditFill State.auditPicks
  simp only [auditable_eq hc]
  by_cases hon : 0 < s.settings.auditInterval ∧ s.settings.uplink = true
  · by_cases hroom : 0 < room
    · simp only [hroom, hon, true_and, and_self, if_true]
    · obtain rfl : room = 0 := by omega
      simp
  · have hoff : ¬ (0 < room ∧ 0 < s.settings.auditInterval ∧ s.settings.uplink = true) := fun h => hon h.2
    have hempty : ¬ (0 < room ∧ ([] : List Nat).length = room) := fun h => by simp at h; omega
    rw [if_neg hon, if_neg hempty, if_neg hoff]

/-- The kits an audit fill chooses are due for audit, none twice, and no more than there is room for. -/
theorem auditPicks_spec {s : State} (hc : canonical .free s.roster = true) (slot target room : Nat) :
    (State.auditPicks s slot target room).Nodup ∧ (State.auditPicks s slot target room).length ≤ room ∧
      ∀ k ∈ State.auditPicks s slot target room, (s.kit k).auditedAt s.settings slot target = true := by
  unfold State.auditPicks
  split
  · exact ⟨((nodup_auditLapFrom hc _).filter _).sublist (List.take_sublist _ _), List.length_take_le _ _,
      fun k hk => (List.mem_filter.1 (List.mem_of_mem_take hk)).2⟩
  · exact ⟨List.nodup_nil, Nat.zero_le _, nofun⟩

theorem length_auditFill_le (s : State) (slot target room : Nat) : (s.auditFill slot target room).1.length ≤ room := by
  unfold State.auditFill
  dsimp only
  split
  · exact List.length_take_le _ _
  · exact Nat.zero_le _

/-- A kit due for audit is settled, answering and of the slot. -/
theorem of_auditedAt {g : Settings} {slot target : Nat} {kit : Kit} (h : kit.auditedAt g slot target = true) :
    ∃ r, kit = .enrolled r ∧ r.settled = true ∧ r.answers = true ∧ r.listen = slot := by
  cases kit with
  | free => cases h
  | damaged => cases h
  | enrolled r =>
    simp only [Kit.auditedAt, Bool.and_eq_true, beq_iff_eq] at h
    obtain ⟨⟨⟨hl, hs⟩, ha⟩, -⟩ := h
    exact ⟨r, rfl, hs, ha, hl⟩

/-! ### The entries of a burst (R79, R92) -/

/-- An entry is of the kit and the origin it was made for, and carries the kit's order as it stands. -/
theorem of_entryOf {s : State} {a : Bool} {k : Nat} {e : Entry} (h : s.entryOf a k = some e) :
    e.kit = k ∧ e.audit = a ∧ ∃ r, s.kit k = .enrolled r ∧ e.issue = r.issue ∧ e.horizon = r.horizon ∧
      e.slot = r.ordered ∧ e.held = r.heldHours.isSome ∧ e.code = r.code := by
  unfold State.entryOf at h
  split at h
  · rename_i r hk
    obtain rfl := Option.some.inj h
    exact ⟨rfl, rfl, r, hk, rfl, rfl, rfl, rfl, rfl⟩
  · cases h

/-- Chosen kits that are enrolled all get an entry, in their order. -/
theorem map_entryOf {s : State} (a : Bool) {ks : List Nat} (h : ∀ k ∈ ks, ∃ r, s.kit k = .enrolled r) :
    (ks.filterMap (s.entryOf a)).map (fun e => (e.kit, e.audit)) = ks.map (·, a) := by
  induction ks with
  | nil => rfl
  | cons k ks ih =>
    obtain ⟨r, hk⟩ := h k (by simp)
    have hentry : ∃ e, s.entryOf a k = some e := by simp [State.entryOf, hk]
    obtain ⟨e, he⟩ := hentry
    obtain ⟨hkit, haudit, -⟩ := of_entryOf he
    rw [List.filterMap_cons_some he, List.map_cons, List.map_cons, ih fun j hj => h j (by simp [hj]), hkit, haudit]

/-! ### The preparation (R79, R83) -/

/-- The class of a kit at the selection for the next slot. -/
def State.nextClass (s : State) (k : Nat) : Option Machine.Class :=
  (s.kit k).classAt s.settings s.clock.advance.absCycle

/-- The pattern pass of a preparation: the pointer and the kits it leaves. -/
def State.nextPass (s : State) : Nat × List Nat :=
  patternPass s.scheduler.pattern (classed (State.nextClass s) (s.list s.clock.advance.slot)) s.settings.packing 16
    s.scheduler.pointer []

/-- The kits chosen from the pending list for the next slot. -/
def State.nextPending (s : State) : List Nat :=
  remainderFill (classed (State.nextClass s) (s.list s.clock.advance.slot)) s.settings.packing (State.nextPass s).2

/-- The audit fill of a preparation. -/
def State.nextAudits (s : State) : List Nat × Nat :=
  s.auditFill s.clock.advance.slot s.clock.advance.absCycle (s.settings.packing - (State.nextPending s).length)

/-- The entries of the next slot's burst. -/
def State.nextEntries (s : State) : List Entry :=
  (State.nextPending s).filterMap (s.entryOf false) ++ (State.nextAudits s).1.filterMap (s.entryOf true)

/-- A burst is prepared: it has entries, or the refresh rule asks for a header-only one (R83). -/
def State.burstDue (s : State) : Bool :=
  !(State.nextEntries s).isEmpty ||
    (0 < s.settings.refresh && s.settings.refresh ≤ lookupAt 0 s.scheduler.idle s.clock.advance.slot)

/-- The burst of the next slot (R15, R91 to R93). -/
def State.nextBurst (s : State) : Burst where
  slot := s.clock.advance.slot
  cycle := s.clock.advance.cycle
  dh := s.clock.advance.dh
  targetCycle := s.clock.advance.absCycle
  hold := decide (s.settings.holdMark ≤ s.store.queue.length)
  district := s.settings.district
  entries := State.nextEntries s
  encoded := []

/-- What a preparation leaves, in the parts of its selection act. -/
theorem prepare_eq (s : State) :
    s.prepare.builder.preparing = (if State.burstDue s then some (State.nextBurst s) else none) ∧
    s.prepare.scheduler = { s.scheduler with
      pointer := (State.nextPass s).1
      auditPtrs := setAt 0 s.clock.advance.slot (State.nextAudits s).2 s.scheduler.auditPtrs
      idle := if State.burstDue s then s.scheduler.idle
        else setAt 0 s.clock.advance.slot (satSucc 255 (lookupAt 0 s.scheduler.idle s.clock.advance.slot)) s.scheduler.idle
      preparedFor := some s.clock.advance.slot } := by
  have hcands : s.candidates s.clock.advance.slot s.clock.advance.absCycle =
      classed (State.nextClass s) (s.list s.clock.advance.slot) := candidates_eq s _ _
  unfold State.prepare
  simp only [hcands]
  exact ⟨rfl, rfl⟩

/-- A burst has no more entries than the packing limit. -/
theorem length_nextEntries_le (s : State) : (State.nextEntries s).length ≤ s.settings.packing := by
  have hpend : (State.nextPending s).length ≤ s.settings.packing :=
    length_remainderFill_le (length_patternPass_le _ _ (Nat.zero_le _))
  have haudit := length_auditFill_le s s.clock.advance.slot s.clock.advance.absCycle
    (s.settings.packing - (State.nextPending s).length)
  have h1 := List.length_filterMap_le (s.entryOf false) (State.nextPending s)
  have h2 := List.length_filterMap_le (s.entryOf true) (State.nextAudits s).1
  unfold State.nextEntries
  unfold State.nextAudits at h2 ⊢
  rw [List.length_append]
  omega

/-! ### The selection act's choices under the invariants -/

/-- The kits chosen from the pending list are in it, pending, and none is chosen twice. -/
theorem nextPending_spec {s : State} (hl : s.listsFollow) : (State.nextPending s).Nodup ∧
    ∀ k ∈ State.nextPending s, k ∈ s.list s.clock.advance.slot ∧ ∃ r, s.kit k = .enrolled r ∧ r.settled = false := by
  obtain ⟨hnd, hmem⟩ := hl s.clock.advance.slot
  have hpass : Picked (State.nextClass s) (s.list s.clock.advance.slot) (State.nextPass s).2 :=
    picked_patternPass 16 _ (picked_nil _ _)
  have hpend : Picked (State.nextClass s) (s.list s.clock.advance.slot) (State.nextPending s) := by
    rw [State.nextPending, remainderFill_classed _ _ hnd]
    exact picked_remainder hnd hpass _
  refine ⟨hpend.1, fun k hk => ⟨(hpend.2 k hk).1, ?_⟩⟩
  have hreq := (hmem k).1 (hpend.2 k hk).1
  cases hkit : s.kit k with
  | free => rw [hkit] at hreq; cases hreq
  | damaged => rw [hkit] at hreq; cases hreq
  | enrolled r =>
    refine ⟨r, rfl, Bool.eq_false_iff.2 fun hs => ?_⟩
    rw [hkit, Kit.requiredSlots, if_pos hs] at hreq
    cases hreq

/-- What the audit fill of a preparation chooses, and the pointer it leaves. -/
theorem nextAudits_eq {s : State} (hc : canonical .free s.roster = true) :
    let room := s.settings.packing - (State.nextPending s).length
    (State.nextAudits s).1 = State.auditPicks s s.clock.advance.slot s.clock.advance.absCycle room ∧
    (State.nextAudits s).2 = if 0 < room ∧ (State.nextAudits s).1.length = room then
        ((State.nextAudits s).1.getLastD 0 + 1) % 4096
      else lookupAt 0 s.scheduler.auditPtrs s.clock.advance.slot := by
  intro room
  rw [State.nextAudits, auditFill_eq hc]
  exact ⟨rfl, rfl⟩

/-- The kits chosen for audit are settled, answering and of the slot, and none is chosen twice. -/
theorem nextAudits_spec {s : State} (hc : canonical .free s.roster = true) : (State.nextAudits s).1.Nodup ∧
    ∀ k ∈ (State.nextAudits s).1,
      ∃ r, s.kit k = .enrolled r ∧ r.settled = true ∧ r.answers = true ∧ r.listen = s.clock.advance.slot := by
  rw [(nextAudits_eq hc).1]
  obtain ⟨hnd, -, hdue⟩ := auditPicks_spec hc s.clock.advance.slot s.clock.advance.absCycle
    (s.settings.packing - (State.nextPending s).length)
  exact ⟨hnd, fun k hk => of_auditedAt (hdue k hk)⟩

/-- The entries are of the chosen kits in the order of choice. -/
theorem map_nextEntries {s : State} (hc : canonical .free s.roster = true) (hl : s.listsFollow) :
    (State.nextEntries s).map (fun e => (e.kit, e.audit)) =
      (State.nextPending s).map (·, false) ++ (State.nextAudits s).1.map (·, true) := by
  rw [State.nextEntries, List.map_append, map_entryOf false, map_entryOf true]
  · exact fun k hk => ((nextAudits_spec hc).2 k hk).imp fun r h => h.1
  · exact fun k hk => ((nextPending_spec hl).2 k hk).2.imp fun r h => h.1

/-- No kit has two entries: those chosen from the list are pending, and those chosen for audit settled. -/
theorem nodup_nextEntries {s : State} (hc : canonical .free s.roster = true) (hl : s.listsFollow) :
    ((State.nextEntries s).map Entry.kit).Nodup := by
  have hkits : (State.nextEntries s).map Entry.kit = State.nextPending s ++ (State.nextAudits s).1 := by
    have := congrArg (List.map Prod.fst) (map_nextEntries hc hl)
    simpa [List.map_map, Function.comp_def] using this
  obtain ⟨hpend, hpending⟩ := nextPending_spec hl
  obtain ⟨haudit, hsettled⟩ := nextAudits_spec hc
  rw [hkits]
  refine List.nodup_append.2 ⟨hpend, haudit, fun j hj k hk hjk => ?_⟩
  obtain ⟨-, r, hr, hrs⟩ := hpending j hj
  obtain ⟨r', hr', hrs', -⟩ := hsettled k hk
  rw [← hjk, hr] at hr'
  obtain rfl := Kit.enrolled.inj hr'
  rw [hrs] at hrs'
  cases hrs'

/-- An entry carries its kit's order as it stands, and its kit is in the state its origin asks for. -/
theorem of_mem_nextEntries {s : State} (hc : canonical .free s.roster = true) (hl : s.listsFollow) {e : Entry}
    (h : e ∈ State.nextEntries s) : ∃ r, s.kit e.kit = .enrolled r ∧ e.issue = r.issue ∧ e.horizon = r.horizon ∧
      e.slot = r.ordered ∧ e.held = r.heldHours.isSome ∧ e.code = r.code ∧
      (e.audit = false → e.kit ∈ s.list s.clock.advance.slot ∧ r.settled = false) ∧
      (e.audit = true → r.settled = true ∧ r.answers = true ∧ r.listen = s.clock.advance.slot) := by
  rcases List.mem_append.1 h with h | h <;> obtain ⟨k, hk, he⟩ := List.mem_filterMap.1 h <;>
    obtain ⟨rfl, haudit, r, hr, hissue, hhorizon, hslot, hheld, hcode⟩ := of_entryOf he
  · obtain ⟨hmem, r', hr', hs⟩ := (nextPending_spec hl).2 e.kit hk
    obtain rfl := Kit.enrolled.inj (hr.symm.trans hr')
    exact ⟨r, hr, hissue, hhorizon, hslot, hheld, hcode, fun _ => ⟨hmem, hs⟩, fun hf => absurd (haudit.symm.trans hf) nofun⟩
  · obtain ⟨r', hr', hs⟩ := (nextAudits_spec hc).2 e.kit hk
    obtain rfl := Kit.enrolled.inj (hr.symm.trans hr')
    exact ⟨r, hr, hissue, hhorizon, hslot, hheld, hcode, fun hf => absurd (haudit.symm.trans hf) nofun, fun _ => hs⟩

/-- A burst is prepared exactly when a kit was chosen or the refresh rule asks for one. -/
theorem burstDue_iff {s : State} (hc : canonical .free s.roster = true) (hl : s.listsFollow) :
    State.burstDue s = true ↔ State.nextPending s ++ (State.nextAudits s).1 ≠ [] ∨
      (0 < s.settings.refresh ∧ s.settings.refresh ≤ lookupAt 0 s.scheduler.idle s.clock.advance.slot) := by
  have hlen := congrArg List.length (map_nextEntries hc hl)
  have hempty : (State.nextEntries s).isEmpty = true ↔ State.nextPending s ++ (State.nextAudits s).1 = [] := by
    rw [List.isEmpty_iff, ← List.length_eq_zero_iff, ← List.length_eq_zero_iff]
    simp only [List.length_append, List.length_map] at hlen ⊢
    omega
  simp only [State.burstDue, Bool.or_eq_true, Bool.not_eq_true', ← Bool.not_eq_true, hempty, Bool.and_eq_true,
    decide_eq_true_eq, ne_eq]

/-- A preparation is the selection act for the next slot. -/
theorem prepare_selects {s : State} (hc : s.tablesCanonical = true) (hl : s.listsFollow)
    (hp : s.scheduler.patternWhole = true) : s.selects s.prepare.scheduler s.prepare.builder.preparing := by
  have hroster : canonical .free s.roster = true := by
    simp only [State.tablesCanonical, Bool.and_eq_true] at hc
    exact hc.1.1.1.1
  obtain ⟨hpat, hptr⟩ := Scheduler.patternWhole_iff.1 hp
  obtain ⟨hbuilder, hscheduler⟩ := prepare_eq s
  obtain ⟨steps, hpass, hlen, hend, hall⟩ := patternPass_steps hpat (State.nextClass s) (s.list s.clock.advance.slot)
    s.settings.packing 16 hptr []
  have hpass : State.nextPass s = ((s.scheduler.pointer + steps.length) % 16, steps.filterMap id) := hpass
  have hpend : State.nextPending s = steps.filterMap id ++
      ((s.list s.clock.advance.slot).filter fun k => (State.nextClass s k).isSome ∧ k ∉ steps.filterMap id).take
        (s.settings.packing - (steps.filterMap id).length) := by
    rw [State.nextPending, remainderFill_classed _ _ (hl _).1, hpass]
  obtain ⟨hpicks, hptrs⟩ := nextAudits_eq hroster
  have hdue := burstDue_iff hroster hl
  rw [hbuilder, hscheduler]
  refine ⟨rfl, rfl, rfl, steps, hlen, hend, congrArg Prod.fst hpass, hall, ?_⟩
  unfold State.nextClass at hpend
  unfold State.auditPicks State.auditLapFrom at hpicks
  dsimp only
  rw [← hpend, ← hpicks]
  refine ⟨fun slot => ?_, fun hnone hidle => ?_, fun hsend => ?_⟩
  · rw [lookupAt_setAt, hptrs]
    by_cases h : slot = s.clock.advance.slot
    · subst h; simp
    · simp [h]
  · have hno : State.burstDue s = false := Bool.eq_false_iff.2 fun h => (hdue.1 h).elim (absurd hnone) hidle
    rw [hno]
    exact ⟨rfl, fun slot => lookupAt_setAt _ _ _ _⟩
  · rw [hdue.2 hsend]
    exact ⟨rfl, State.nextBurst s, rfl, rfl, rfl, rfl, rfl, rfl, rfl, map_nextEntries hroster hl, length_nextEntries_le s,
      nodup_nextEntries hroster hl, fun e he => of_mem_nextEntries hroster hl he⟩

end Sys2Proof.Proofs
end

section
/-! PROOFS. When a preparation begins: the downlink window end and START; and what STOP and RESET discard (R9 to R11, R79,
R91, R92, R98). -/

namespace Sys2Proof.Proofs

open Sys2Proof Sys2Proof.Machine Sys2Proof.Laws

/-! ### The downlink window end (R9) -/

/-- The next slot's time does not depend on the slot timer. -/
theorem advance_timer (c : Clock) (t : SlotTimer) : ({ c with timer := t } : Clock).advance = { c.advance with timer := t } := by
  simp only [Clock.advance]
  split
  · rfl
  · split
    · rfl
    · split <;> rfl

/-- The selection act reads the next slot's time, the roster, the scheduler, the settings and the dirty queue. -/
theorem selects_congr {s u : State} {t : SlotTimer} (hnext : u.clock.advance = { s.clock.advance with timer := t })
    (hroster : u.roster = s.roster) (hscheduler : u.scheduler = s.scheduler) (hsettings : u.settings = s.settings)
    (hqueue : u.store.queue = s.store.queue) {q : Scheduler} {b : Option Burst} (h : u.selects q b) : s.selects q b := by
  unfold State.selects State.list State.kit at h ⊢
  rw [hnext, hroster, hscheduler, hsettings, hqueue] at h
  exact h

theorem beginPreparation_free {s : State} (hp : s.builder.preparing = none) (hr : s.builder.ready = none) :
    s.beginPreparation = s.prepare := by
  simp [State.beginPreparation, hp, hr]

theorem beginPreparation_busy {s : State} (h : s.builder.preparing ≠ none ∨ s.builder.ready ≠ none) :
    s.beginPreparation = s := by
  rcases beginPreparation_cases s with ⟨hp, hr, -⟩ | ⟨-, h'⟩
  · exact absurd h (by simp [hp, hr])
  · exact h'

/-- What a downlink window end does: the reply window begins, and then a preparation where one is called for. -/
theorem exec_downlinkWindowEnd {s : State} (h : s.timed = true) : exec .downlinkWindowEnd s = .next (
    let u := s.onClock fun c => { c with timer := .reply 1 }
    if s.link.op = .onAir ∧ s.scheduler.preparedFor ≠ some s.clock.advance.slot then u.beginPreparation else u) := by
  have hslot := congrArg Clock.slot (advance_timer s.clock (.reply 1))
  show execDownlinkWindowEnd s = _
  rw [execDownlinkWindowEnd, if_pos h, State.takeDownlinkWindowEnd]
  simp only [onClock_link, onClock_scheduler, onClock_clock, hslot]

/-- Settles O12: the preparation of the part whose reply window has begun is the selection act of the part before. -/
theorem downlinkWindowEndPreparesTheNextSlot : Obligations.DownlinkWindowEndPreparesTheNextSlot := by
  refine ⟨fun s ht hop hp hr hfor hc hl hw => ?_, fun s ht hno => ?_⟩
  · refine ⟨(s.onClock fun c => { c with timer := .reply 1 }).prepare, ?_, ?_, rfl⟩
    · rw [exec_downlinkWindowEnd ht]
      exact congrArg _ ((if_pos ⟨hop, hfor⟩).trans
        (beginPreparation_free (s := s.onClock fun c => { c with timer := .reply 1 }) hp hr))
    · exact selects_congr (u := s.onClock fun c => { c with timer := .reply 1 }) (advance_timer s.clock _) rfl rfl rfl rfl
        (prepare_selects (s := s.onClock fun c => { c with timer := .reply 1 }) hc hl hw)
  · rw [exec_downlinkWindowEnd ht]
    refine congrArg _ ?_
    dsimp only
    split
    · rename_i h
      obtain ⟨hop, hfor⟩ := h
      have hbusy : s.builder.preparing ≠ none ∨ s.builder.ready ≠ none :=
        hno.elim (absurd hop) fun h => h.elim (fun h => absurd h hfor) id
      exact beginPreparation_busy hbusy
    · rfl

/-! ### START (R9) -/

theorem startRule_onAir {s : State} (h : s.link.op = .onAir) (tag : Byte) (p : List Byte) :
    startRule tag p s = s.answerNow .start tag p .state (be1 2) := by
  rw [startRule, if_pos h, h]
  rfl

theorem startRule_notReady {s : State} (h : s.link.op = .standby) (hn : s.clock.isSet = false ∨ s.settings.district = 0)
    (tag : Byte) (p : List Byte) : startRule tag p s = s.answerNow .start tag p .notReady [] := by
  rw [startRule, if_neg (by rw [h]; decide), if_pos (by simpa using hn)]

theorem startRule_standby {s : State} (h : s.link.op = .standby) (hc : s.clock.isSet = true) (hd : s.settings.district ≠ 0)
    (tag : Byte) (p : List Byte) :
    startRule tag p s = ((s.setOp .onAir).answerNow .start tag p .ok []).beginPreparation := by
  rw [startRule, if_neg (by rw [h]; decide), if_neg (by simp [hc, hd])]

/-- The part after START's reply, before its preparation. -/
def State.startAnswered (tag : Byte) (p : List Byte) (s : State) : State :=
  { s with link := { (s.answered .start tag p .ok []).link with op := .onAir } }

/-- START in STANDBY enters ON AIR and prepares for the next slot where the buffers are free. -/
theorem start_in_standby {s : State} {tag : Byte} {p : List Byte} (h : s.ready .start tag p = true)
    (hop : s.link.op = .standby) (hset : s.clock.isSet = true) (hd : s.settings.district ≠ 0) :
    exec (.start tag p) s = .next (State.startAnswered tag p s).beginPreparation := by
  have hrun : exec (.start tag p) s = .next (startRule tag p (State.waiting s)) := exec_ready h
  have hanswered : ((State.waiting s).setOp .onAir).answerNow .start tag p .ok [] = State.startAnswered tag p s := rfl
  rw [hrun, startRule_standby (s := State.waiting s) hop hset hd, hanswered]

/-- A burst in preparation is for the next slot and within the packing limit. -/
theorem of_prepare_preparing {s : State} {b : Burst} (h : s.prepare.builder.preparing = some b) :
    b.slot = s.clock.advance.slot ∧ b.cycle = s.clock.advance.cycle ∧ b.dh = s.clock.advance.dh ∧
      b.entries.length ≤ s.settings.packing := by
  rw [(prepare_eq s).1] at h
  split at h
  · obtain rfl := Option.some.inj h
    exact ⟨rfl, rfl, rfl, length_nextEntries_le s⟩
  · cases h

/-! ### RESET (R11) -/

/-- The part after RESET's reply, in CLOSING with the preparation discarded, before a walk ends. -/
def State.resetAnswered (tag : Byte) (p : List Byte) (s : State) : State :=
  { s.answered .reset tag p .ok [] with
    link := { (s.answered .reset tag p .ok []).link with op := .closing }
    builder := { s.builder with preparing := none, ready := none }
    scheduler := { s.scheduler with preparedFor := none } }

/-- RESET outside FAULTED makes its reply first and then ends a walk or has it end (R11). -/
theorem resetRule_closing {s : State} (h : s.link.op ≠ .faulted) (tag : Byte) (p : List Byte) :
    resetRule tag p (State.waiting s) = (State.resetAnswered tag p s).abortWalk := by
  have hrule : resetRule tag p (State.waiting s) =
      (((State.waiting s).answerNow .reset tag p .ok []).setOp .closing).discardPreparation.abortWalk := if_neg h
  rw [hrule, answerNow_waiting]
  rfl

/-- A post does not ask for the operating state. -/
theorem posted_op (n : Notice) (op : OpState) (l : Link) :
    ({ l with op := op } : Link).posted n = { l.posted n with op := op } := by
  simp only [Link.posted]
  split <;> rfl

theorem abortWalk_none {s : State} (h : s.walk = none) : s.abortWalk = { s with walk := none } := by
  rw [State.abortWalk, h]
  show s = { s with walk := none }
  rw [← h]

/-- A walk with a record in hand is marked to end after it (R67). -/
theorem abortWalk_inHand {s : State} {w : Walk} (h : s.walk = some w) (hi : w.inHand = true) :
    s.abortWalk = { s with walk := some { w with abort := true } } := by
  rw [State.abortWalk, h]
  exact if_pos hi

/-- A walk with no record in hand ends with its notice (R67). -/
theorem abortWalk_ends {s : State} {w : Walk} (h : s.walk = some w) (hi : w.inHand = false) :
    s.abortWalk = { s with walk := none, link := s.link.posted (abortedNotice w s.clock) } := by
  rw [State.abortWalk, h]
  exact if_neg (by rw [hi]; exact Bool.false_ne_true)

/-- Settles O45, command by command. -/
theorem startStopAndResetChangeTheState : Obligations.StartStopAndResetChangeTheState := by
  refine ⟨fun s tag p h => ⟨fun hop => ?_, fun hop hn => ?_, fun hop hset hd => ?_⟩,
    fun s tag p h => ⟨fun hop => ?_, fun hop => ?_⟩, fun s tag p h => ⟨fun hop => ?_, fun hop => ?_⟩⟩
  · exact exec_answered h nofun (startRule_onAir (s := State.waiting s) hop tag p)
  · exact exec_answered h nofun (startRule_notReady (s := State.waiting s) hop hn tag p)
  · have hrun := start_in_standby h hop hset hd
    rcases beginPreparation_cases (State.startAnswered tag p s) with ⟨hp, hr, hb⟩ | ⟨hbusy, hb⟩ <;> rw [hb] at hrun
    · refine ⟨_, hrun, rfl, rfl, fun _ _ => ⟨rfl, fun b => of_prepare_preparing, fun hc hl hw => ?_⟩, fun h => ?_⟩
      · exact selects_congr (t := s.clock.advance.timer) rfl rfl rfl rfl rfl
          (prepare_selects (s := State.startAnswered tag p s) hc hl hw)
      · exact absurd h (by rintro (h | h) <;> [exact h hp; exact h hr])
    · refine ⟨_, hrun, rfl, rfl, fun hp hr => ?_, fun _ => ⟨rfl, rfl⟩⟩
      exact absurd hbusy (by rintro (h | h) <;> [exact h hp; exact h hr])
  · refine exec_answered h nofun ?_
    show stopRule tag p (State.waiting s) = _
    rw [stopRule, if_pos (show (State.waiting s).link.op = _ from hop), show (State.waiting s).link.op = _ from hop]
    rfl
  · have hrun : exec (.stop tag p) s = .next (stopRule tag p (State.waiting s)) := exec_ready h
    have hne : (State.waiting s).link.op ≠ .standby := by rw [show (State.waiting s).link.op = _ from hop]; decide
    rw [hrun, stopRule, if_neg hne]
    rfl
  · have hrun : exec (.reset tag p) s = .next (resetRule tag p (State.waiting s)) := exec_ready h
    rw [hrun, resetRule, if_pos (show (State.waiting s).link.op = _ from hop)]
    rfl
  · have hrun : exec (.reset tag p) s = .next (resetRule tag p (State.waiting s)) := exec_ready h
    rw [hrun, resetRule_closing hop]
    refine congrArg _ ?_
    cases hw : s.walk with
    | none => exact abortWalk_none (s := State.resetAnswered tag p s) hw
    | some w =>
      cases hi : w.inHand with
      | true => exact (abortWalk_inHand (s := State.resetAnswered tag p s) hw hi).trans (if_pos hi).symm
      | false =>
        have hends := abortWalk_ends (s := State.resetAnswered tag p s) hw hi
        rw [show (State.resetAnswered tag p s).link = { (s.answered .reset tag p .ok []).link with op := .closing } from rfl,
          posted_op] at hends
        exact hends.trans (if_neg (by rw [hi]; exact Bool.false_ne_true)).symm

end Sys2Proof.Proofs
end

section
/-! SUPPORT. Valid records: what `KitRec.valid` says field by field, and that every record the part makes is valid when the
one it is made from is (R18 to R20, R27, R35, R40, R43 to R50, R63, R87 to R89, R118 to R121, R128, R132, R137). -/

namespace Sys2Proof.Proofs

open Sys2Proof Sys2Proof.Machine Sys2Proof.Laws

/-! ### Valid records (R18 to R20) -/

/-- What `KitRec.valid` says, field by field. -/
structure RecSound (r : KitRec) : Prop where
  listen    : r.listen ≤ 119
  ordered   : r.ordered ≤ 119
  moveIssue : r.moveIssue.isSome = (r.listen != r.ordered)
  horizon   : r.horizon ≤ maxHour
  heldHours : r.heldHours.getD 0 ≤ maxHeldHours
  mark      : r.mark ≤ 255
  sends     : r.sends ≤ 255
  missed    : r.missed ≤ 15
  tamper    : r.tamper ≤ 15
  settled   : r.settled = true → r.confirmed = some r.issue ∧ r.notify = false
  moveSent  : r.moveSent = true → r.moveIssue.isSome = true

theorem not_or_eq_true_iff {b : Bool} {p : Prop} : (b = false ∨ p) ↔ (b = true → p) := by cases b <;> simp

theorem valid_iff {r : KitRec} : r.valid = true ↔ RecSound r := by
  simp only [KitRec.valid, Bool.and_eq_true, decide_eq_true_eq, beq_iff_eq, Bool.or_eq_true, Bool.not_eq_true',
    not_or_eq_true_iff]
  constructor
  · rintro ⟨⟨⟨⟨⟨⟨⟨⟨⟨⟨h1, h2⟩, h3⟩, h4⟩, h5⟩, h6⟩, h7⟩, h8⟩, h9⟩, h10⟩, h11⟩
    exact ⟨h1, h2, h3, h4, h5, h6, h7, h8, h9, h10, h11⟩
  · rintro ⟨h1, h2, h3, h4, h5, h6, h7, h8, h9, h10, h11⟩
    exact ⟨⟨⟨⟨⟨⟨⟨⟨⟨⟨h1, h2⟩, h3⟩, h4⟩, h5⟩, h6⟩, h7⟩, h8⟩, h9⟩, h10⟩, h11⟩

theorem valid_enrolled {r : KitRec} (h : RecSound r) : (Kit.enrolled r).valid = true := valid_iff.2 h

/-- The records of a sound part are sound. -/
theorem recSound_of_kit {s : State} (hv : s.recordsValid) {k : Nat} {r : KitRec} (hk : s.kit k = .enrolled r) :
    RecSound r := by
  obtain ⟨-, -, -, hkit⟩ := hv
  have h := hkit k
  rw [hk] at h
  exact valid_iff.1 h

theorem satSucc_le (limit n : Nat) : satSucc limit n ≤ limit := Nat.min_le_right _ _

theorem ceiling_le (s : State) : s.ceiling ≤ maxHour := Nat.min_le_right _ _

theorem advance_le {g : Settings} (h : g.inRange = true) : g.advance ≤ maxHeldHours := by
  simp only [Settings.inRange, fieldsInRange, List.all_cons, Bool.and_eq_true, decide_eq_true_eq, id_eq] at h
  exact h.2.1.2

/-! ### Changes of order (R22, R27, R40) -/

/-- A change of order leaves a record sound when the new horizon, held hours and slots are. -/
theorem recSound_changeOrder {r' : KitRec} (h : RecSound r') (dh : Nat) (notify : Bool) (r : KitRec) :
    RecSound (changeOrder dh notify r r') :=
  { h with sends := Nat.zero_le _, settled := nofun }

theorem recSound_enrolledRec {slot horizon : Nat} (hs : slot ≤ 119) (hh : horizon ≤ maxHour) (code : KitCode)
    (answers : Bool) (issue : Issue) : RecSound (enrolledRec code answers slot horizon issue) where
  listen := hs
  ordered := hs
  moveIssue := (bne_self_eq_false slot).symm
  horizon := hh
  heldHours := Nat.zero_le _
  mark := Nat.zero_le _
  sends := Nat.zero_le _
  missed := Nat.zero_le _
  tamper := Nat.zero_le _
  settled := nofun
  moveSent := nofun

theorem recSound_grantedRec {r : KitRec} (h : RecSound r) {c : Nat} (hc : c ≤ maxHour) (dh hours : Nat) (notify : Bool) :
    RecSound (grantedRec dh c hours notify r) := by
  refine recSound_changeOrder ?_ dh notify r
  exact { h with horizon := Nat.max_le.2 ⟨h.horizon, (Nat.min_le_right _ _).trans hc⟩ }

theorem recSound_withdrawnRec {r : KitRec} (h : RecSound r) {dh : Nat} (hdh : dh ≤ maxHour) (notify : Bool) :
    RecSound (withdrawnRec dh notify r) := by
  refine recSound_changeOrder ?_ dh notify r
  exact { h with horizon := hdh, heldHours := Nat.min_le_right _ _ }

theorem recSound_resumedRec {r : KitRec} (h : RecSound r) {c : Nat} (hc : c ≤ maxHour) (dh held : Nat) (notify : Bool) :
    RecSound (resumedRec dh c held notify r) := by
  refine recSound_changeOrder ?_ dh notify r
  exact { h with horizon := (Nat.min_le_right _ _).trans hc, heldHours := Nat.zero_le _ }

theorem recSound_movedRec {r : KitRec} (h : RecSound r) {slot : Nat} (hs : slot ≤ 119) (hne : slot ≠ r.listen) (dh : Nat)
    (notify : Bool) : RecSound (movedRec dh slot notify r) := by
  refine recSound_changeOrder ?_ dh notify r
  exact { h with ordered := hs, moveIssue := (bne_iff_ne.2 hne.symm).symm, moveSent := nofun }

theorem recSound_completedRec {r : KitRec} (h : RecSound r) : RecSound (completedRec r) :=
  { h with listen := h.ordered, moveIssue := (bne_self_eq_false r.ordered).symm, moveSent := nofun }

theorem recSound_gracedRec {r : KitRec} (h : RecSound r) {c number : Nat} (hc : c ≤ maxHour) (hn : number ≤ 255)
    (dh hours : Nat) : RecSound (gracedRec dh c hours number r).1 := by
  unfold gracedRec
  split
  · exact { h with mark := hn }
  · exact { recSound_grantedRec h hc dh hours false with mark := hn }

/-! ### Delivery (R87 to R89, R118 to R121, R128) -/

theorem recSound_countedRec {r : KitRec} (h : RecSound r) (now : Nat) : RecSound (countedRec now r) :=
  { h with
    moveSent := fun hs => (Bool.or_eq_true _ _ ▸ (show (r.moveSent || r.moveIssue.isSome) = true from hs)).elim h.moveSent id }

theorem sendsAfter_le {r : KitRec} (h : RecSound r) (g : Settings) (hold : Bool) : sendsAfter g hold r ≤ 255 := by
  unfold sendsAfter
  split
  · exact satSucc_le _ _
  · exact h.sends

theorem recSound_settled {r : KitRec} (h : RecSound r) :
    RecSound { r with confirmed := some r.issue, settled := true, notify := false } :=
  { h with settled := fun _ => ⟨rfl, rfl⟩ }

theorem recSound_confirmed {r : KitRec} (h : RecSound r) : RecSound { r with confirmed := some r.issue } :=
  { h with settled := fun hs => ⟨rfl, (h.settled hs).2⟩ }

theorem recSound_behindRec {r : KitRec} (h : RecSound r) (held : Issue) : RecSound (behindRec held r) :=
  { h with
    sends := by
      show (if r.settled then 0 else r.sends) ≤ 255
      split
      · exact Nat.zero_le _
      · exact h.sends
    settled := nofun }

theorem recSound_heardRec {r : KitRec} (h : RecSound r) (f : Frame) : RecSound (heardRec f r) :=
  { h with
    missed := Nat.zero_le _
    tamper := by
      show tamperAfter _ _ ≤ 15
      unfold tamperAfter
      split
      · exact satSucc_le _ _
      · exact Nat.zero_le _ }

theorem recSound_missed {r : KitRec} (h : RecSound r) (reported : Bool) :
    RecSound { r with missed := satSucc 15 r.missed, silentReported := reported } :=
  { h with missed := satSucc_le _ _ }

/-! ### The load (R35, R36) -/

/-- What a stored record with a good check and contents is made of is sound. -/
theorem recSound_loadedRec {b : List Byte} (h : storedValid b = true) : RecSound (loadedRec b) := by
  simp only [storedValid, Bool.and_eq_true, decide_eq_true_eq, beq_iff_eq] at h
  obtain ⟨⟨⟨⟨⟨-, hl⟩, ho⟩, hh⟩, -⟩, hm⟩ := h
  have hz := field_lt b 9 3
  have hk := field_lt b 16 1
  exact {
    listen := hl
    ordered := ho
    moveIssue := hm
    horizon := by show field b 9 3 ≤ 16777215; omega
    heldHours := hh
    mark := by show field b 16 1 ≤ 255; omega
    sends := Nat.zero_le _
    missed := Nat.zero_le _
    tamper := Nat.zero_le _
    settled := nofun
    moveSent := fun hs => by
      show (if bitAt (field b 0 1) 5 then some (BitVec.ofNat 16 (field b 7 2)) else none).isSome = true
      rw [show bitAt (field b 0 1) 5 = true from hs]
      rfl }

theorem valid_loadedKit (k : Nat) (b : List Byte) : (loadedKit k b).valid = true := by
  unfold loadedKit
  split
  · rfl
  · split
    · rfl
    · split
      · exact valid_iff.2 (recSound_loadedRec ‹_›)
      · rfl

/-! ### Verdicts (R26, R41) -/

/-- A verdict that applies a record applies a valid one. -/
def Verdict.Sound (v : Verdict) : Prop := ∀ kit st content, v = .apply kit st content → kit.valid = true

theorem sound_answer (st : Status) (content : List Byte) : Verdict.Sound (.answer st content) := by
  intro _ _ _ h
  cases h

theorem sound_apply {kit : Kit} (h : kit.valid = true) (st : Status) (content : List Byte) :
    Verdict.Sound (.apply kit st content) := by
  rintro _ _ _ ⟨⟩
  exact h

theorem valid_enrolArgs {c : Nat} {b : List Byte} (hc : c ≤ maxHour) (h : enrolOutOfRange c b = false) :
    (Kit.enrolled (enrolArgs b)).valid = true := by
  simp only [enrolOutOfRange, Bool.or_eq_false_iff, decide_eq_false_iff_not, Nat.not_lt] at h
  exact valid_enrolled (recSound_enrolledRec h.1 (h.2.trans hc) _ _ _)

theorem sound_enrolVerdict {c : Nat} (hc : c ≤ maxHour) (b : List Byte) (kit : Kit) : Verdict.Sound (enrolVerdict c b kit) := by
  unfold enrolVerdict
  split
  · split
    · exact sound_answer _ _
    · exact sound_apply (valid_enrolArgs hc (Bool.eq_false_iff.2 ‹_›)) _ _
  · exact sound_answer _ _

theorem sound_restoreVerdict {c : Nat} (hc : c ≤ maxHour) (b : List Byte) (kit : Kit) :
    Verdict.Sound (restoreVerdict c b kit) := by
  unfold restoreVerdict
  split
  · split
    · exact sound_answer _ _
    · exact sound_apply (valid_enrolArgs hc (Bool.eq_false_iff.2 ‹_›)) _ _
  · exact sound_answer _ _

theorem sound_retireVerdict (kit : Kit) : Verdict.Sound (retireVerdict kit) := by
  unfold retireVerdict
  split
  · exact sound_answer _ _
  · exact sound_apply rfl _ _

theorem sound_grantVerdict {dh advance : Nat} (ha : advance ≤ maxHeldHours) (p : List Byte) {kit : Kit}
    (hk : kit.valid = true) : Verdict.Sound (grantVerdict dh advance p kit) := by
  unfold grantVerdict
  dsimp only
  split
  · have hr := valid_iff.1 hk
    split
    · exact sound_answer _ _
    · split
      · split
        · exact sound_answer _ _
        · exact sound_apply (valid_enrolled (recSound_grantedRec hr (Nat.min_le_right _ _) _ _ _)) _ _
      · rename_i held hheld
        split
        · exact sound_answer _ _
        · have hle : held ≤ maxHeldHours := by simpa [hheld] using hr.heldHours
          refine sound_apply (valid_enrolled ?_) _ _
          exact { hr with heldHours := Nat.max_le.2 ⟨hle, (Nat.min_le_right _ _).trans ha⟩ }
  · exact sound_answer _ _

theorem sound_setHorizonVerdict (dh advance : Nat) (p : List Byte) {kit : Kit} (hk : kit.valid = true) :
    Verdict.Sound (setHorizonVerdict dh advance p kit) := by
  unfold setHorizonVerdict
  dsimp only
  split
  · split
    · exact sound_answer _ _
    · split
      · exact sound_answer _ _
      · rename_i hv
        split
        · exact sound_answer _ _
        · have hle : field p 2 3 ≤ maxHour := (Nat.not_lt.1 hv).trans (Nat.min_le_right _ _)
          refine sound_apply (valid_enrolled (recSound_changeOrder ?_ _ _ _)) _ _
          exact { valid_iff.1 hk with horizon := hle }
  · exact sound_answer _ _

theorem sound_withdrawVerdict {dh : Nat} (hdh : dh ≤ maxHour) (p : List Byte) {kit : Kit} (hk : kit.valid = true) :
    Verdict.Sound (withdrawVerdict dh p kit) := by
  unfold withdrawVerdict
  split
  · split
    · exact sound_answer _ _
    · exact sound_apply (valid_enrolled (recSound_withdrawnRec (valid_iff.1 hk) hdh _)) _ _
  · exact sound_answer _ _

theorem sound_resumeVerdict (dh advance : Nat) (p : List Byte) {kit : Kit} (hk : kit.valid = true) :
    Verdict.Sound (resumeVerdict dh advance p kit) := by
  unfold resumeVerdict
  dsimp only
  split
  · split
    · exact sound_answer _ _
    · exact sound_apply (valid_enrolled (recSound_resumedRec (valid_iff.1 hk) (Nat.min_le_right _ _) _ _ _)) _ _
  · exact sound_answer _ _

theorem sound_moveVerdict (dh : Nat) (uplink : Bool) (p : List Byte) {kit : Kit} (hk : kit.valid = true) :
    Verdict.Sound (moveVerdict dh uplink p kit) := by
  unfold moveVerdict
  dsimp only
  split
  · split
    · exact sound_answer _ _
    · split
      · exact sound_answer _ _
      · split
        · exact sound_answer _ _
        · rename_i hs
          rw [not_or, Nat.not_lt] at hs
          exact sound_apply (valid_enrolled (recSound_movedRec (valid_iff.1 hk) hs.1 hs.2 _ _)) _ _
  · exact sound_answer _ _

/-- Every command's verdict on a valid record of a sound part is sound. -/
theorem sound_commandVerdict {s : State} (hv : s.recordsValid) (c : CmdKind) (p : List Byte) {kit : Kit}
    (hk : kit.valid = true) : Verdict.Sound (commandVerdict s c p kit) := by
  obtain ⟨hclock, hset, -, -⟩ := hv
  obtain ⟨hdh, -, -⟩ := Clock.inRange_iff.1 hclock
  cases c with
  | enrol => exact sound_enrolVerdict (ceiling_le s) _ _
  | restore => exact sound_restoreVerdict (ceiling_le s) _ _
  | retire => exact sound_retireVerdict _
  | grant => exact sound_grantVerdict (advance_le hset) _ hk
  | setHorizon => exact sound_setHorizonVerdict _ _ _ hk
  | withdraw => exact sound_withdrawVerdict hdh _ hk
  | resume => exact sound_resumeVerdict _ _ _ hk
  | move => exact sound_moveVerdict _ _ _ hk
  | _ => exact sound_answer _ _

end Sys2Proof.Proofs
end

section
/-! PROOFS. Every step keeps the pending lists on the records, and the records, the settings and the walk's number valid
(R1, R18 to R20, R25, R40, R60, R72, R73, R153). -/

namespace Sys2Proof.Proofs

open Sys2Proof Sys2Proof.Machine Sys2Proof.Laws

/-! ### Acts that keep the records and the lists -/

/-- The tables of the records and of the lists are canonical, and the lists are what the records require. -/
structure RosterSound (s : State) : Prop where
  roster : canonical .free s.roster = true
  lists  : canonical [] s.scheduler.lists = true
  follow : s.listsFollow

/-- The lists stay on the records, and the records stay valid. -/
structure RecordsKept (s t : State) : Prop where
  sound : RosterSound s → RosterSound t
  valid : s.recordsValid → t.recordsValid

theorem RecordsKept.refl (s : State) : RecordsKept s s := ⟨id, id⟩

theorem RecordsKept.trans {s t u : State} (h : RecordsKept s t) (h' : RecordsKept t u) : RecordsKept s u :=
  ⟨h'.sound ∘ h.sound, h'.valid ∘ h.valid⟩

theorem rosterSound_congr {s t : State} (hr : t.roster = s.roster) (hl : t.scheduler.lists = s.scheduler.lists)
    (h : RosterSound s) : RosterSound t := by
  refine ⟨by rw [hr]; exact h.roster, by rw [hl]; exact h.lists, fun slot => ?_⟩
  simpa only [list_congr hl, kit_congr hr] using h.follow slot

/-- Acts that leave the records and the lists keep them, if the clock, the settings and the walk's number stay in range. -/
theorem RecordsKept.of_ranges {s t : State} (hr : t.roster = s.roster) (hl : t.scheduler.lists = s.scheduler.lists)
    (hc : s.clock.inRange = true → t.clock.inRange = true) (hs : s.settings.inRange = true → t.settings.inRange = true)
    (hw : (∀ w ∈ s.walk, 1 ≤ w.number ∧ w.number ≤ 255) → ∀ w ∈ t.walk, 1 ≤ w.number ∧ w.number ≤ 255) :
    RecordsKept s t where
  sound := rosterSound_congr hr hl
  valid := fun ⟨h1, h2, h3, h4⟩ => ⟨hc h1, hs h2, hw h3, fun k => by rw [kit_congr hr]; exact h4 k⟩

theorem RecordsKept.of_eq {s t : State} (hr : t.roster = s.roster) (hl : t.scheduler.lists = s.scheduler.lists)
    (hc : t.clock = s.clock) (hs : t.settings = s.settings) (hw : t.walk = s.walk) : RecordsKept s t :=
  .of_ranges hr hl (by rw [hc]; exact id) (by rw [hs]; exact id) (by rw [hw]; exact id)

/-- What follows and leaves the records, the lists, the clock, the settings and the walk keeps them too. -/
theorem RecordsKept.then {s u t : State} (h : RecordsKept s u) (hr : t.roster = u.roster)
    (hl : t.scheduler.lists = u.scheduler.lists) (hc : t.clock = u.clock) (hs : t.settings = u.settings)
    (hw : t.walk = u.walk) : RecordsKept s t := h.trans (.of_eq hr hl hc hs hw)

/-- A valid record put in its place keeps both (R73). -/
theorem recordsKept_putKit {s : State} (k : Nat) {kit : Kit} (h : s.recordsValid → kit.valid = true) :
    RecordsKept s (s.putKit k kit) where
  sound := fun ⟨hr, hl, hf⟩ => by
    let bare : State := { s with
      scheduler := { s.scheduler with auditPtrs := [], idle := [] }, store := { s.store with cells := [] } }
    have hbare : bare.tablesCanonical = true := by
      show (canonical .free s.roster && canonical [] s.scheduler.lists && true && true && true) = true
      rw [hr, hl]; rfl
    exact ⟨canonical_setAt hr k kit, canonical_relist hl k _, listsFollow_putKit (s := bare) hbare hf k kit⟩
  valid := fun hv => by
    obtain ⟨hc, hs, hw, hk⟩ := hv
    refine ⟨hc, hs, hw, fun j => ?_⟩
    rw [kit_putKit]
    split
    · exact h ⟨hc, hs, hw, hk⟩
    · exact hk j

/-- A sound record put in its place keeps both. -/
theorem recordsKept_putRec {s : State} (k : Nat) {r : KitRec} (h : s.recordsValid → RecSound r) :
    RecordsKept s (s.putKit k (.enrolled r)) := recordsKept_putKit k fun hv => valid_enrolled (h hv)

/-- A blank part has no records and no lists. -/
theorem recordsKept_blank {s t : State} (hr : t.roster = []) (hl : t.scheduler.lists = []) (hc : t.clock = .unset)
    (hs : t.settings = .default) (hw : t.walk = none) : RecordsKept s t where
  sound := fun _ => rosterSound_congr (s := State.reset) hr hl ⟨rfl, rfl, listsFollow_reset⟩
  valid := fun _ => by
    obtain ⟨h1, h2, h3, h4⟩ := recordsValid_reset
    exact ⟨by rw [hc]; exact h1, by rw [hs]; exact h2, by rw [hw]; exact h3, fun k => by
      rw [kit_congr (s := State.reset) hr]; exact h4 k⟩

theorem recordsKept_post (s : State) (n : NoticeKind) (k : Option Nat) : RecordsKept s (s.post n k) :=
  .of_eq rfl rfl rfl rfl rfl

/-- A post that may be made. -/
theorem RecordsKept.postIf {s t : State} (h : RecordsKept s t) (c : Bool) (n : NoticeKind) (k : Option Nat) :
    RecordsKept s (if c then t.post n k else t) := by
  cases c
  · exact h
  · exact h.trans (recordsKept_post t n k)

theorem recordsKept_onBuilder (s : State) (f : Builder → Builder) : RecordsKept s (s.onBuilder f) :=
  .of_eq rfl rfl rfl rfl rfl

theorem recordsKept_onStore (s : State) (f : Store → Store) : RecordsKept s (s.onStore f) := .of_eq rfl rfl rfl rfl rfl

theorem recordsKept_raise (s : State) (w : Counter) : RecordsKept s (s.raise w) := .of_eq rfl rfl rfl rfl rfl

theorem recordsKept_setWalk {s : State} {w : Option Walk}
    (h : (∀ w ∈ s.walk, 1 ≤ w.number ∧ w.number ≤ 255) → ∀ w' ∈ w, 1 ≤ w'.number ∧ w'.number ≤ 255) :
    RecordsKept s (s.setWalk w) := .of_ranges rfl rfl id id h

/-- A walk goes on under its number. -/
theorem recordsKept_walkOn {s : State} {w : Walk} (hw : s.walk = some w) {w' : Walk} (hn : w'.number = w.number) :
    RecordsKept s (s.setWalk (some w')) :=
  recordsKept_setWalk fun h u hu => by cases hu; rw [hn]; exact h w hw

theorem recordsKept_endWalk (s : State) (w : Walk) (aborted : Bool) : RecordsKept s (s.endWalk w aborted) :=
  (recordsKept_setWalk (s := s) (w := none) fun _ => nofun).trans (recordsKept_post _ _ _)

theorem recordsKept_finishIndex {s : State} {w : Walk} (hw : s.walk = some w) (changed : Bool) :
    RecordsKept s (s.finishIndex w changed) := by
  rcases finishIndex_cases s w changed with ⟨-, h⟩ | ⟨-, -, h⟩ | ⟨-, -, h⟩ <;> rw [h]
  · exact recordsKept_endWalk ..
  · exact recordsKept_endWalk ..
  · exact recordsKept_walkOn hw rfl

theorem recordsKept_abortWalk (s : State) : RecordsKept s s.abortWalk := by
  unfold State.abortWalk
  split
  · exact .refl s
  · rename_i w hw
    split
    · exact recordsKept_walkOn hw rfl
    · exact recordsKept_endWalk ..

theorem RecordsKept.foldl {β : Type} {f : State → β → State} (hf : ∀ s b, RecordsKept s (f s b)) (l : List β) (s : State) :
    RecordsKept s (l.foldl f s) := by
  induction l generalizing s with
  | nil => exact .refl s
  | cons b l ih => exact (hf s b).trans (ih (f s b))

/-! ### Rolls, counts and receipts (R85 to R89, R118 to R129) -/

theorem recordsKept_chargePosition (roll : Roll) (s : State) (p : Position) : RecordsKept s (s.chargePosition roll p) := by
  rcases chargePosition_cases roll s p with h | ⟨r, hk, -, h⟩ <;> rw [h]
  · exact .refl s
  · exact ((recordsKept_putRec p.kit fun hv => recSound_missed (recSound_of_kit hv hk) _).postIf _ _ _).postIf _ _ _

theorem recordsKept_closeRoll (s : State) (roll : Roll) : RecordsKept s (s.closeRoll roll) :=
  (RecordsKept.foldl (recordsKept_chargePosition roll) roll.positions s).then rfl rfl rfl rfl rfl

theorem recordsKept_closeDone (s : State) : RecordsKept s s.closeDone := RecordsKept.foldl recordsKept_closeRoll _ s

theorem recordsKept_finishFrame (s : State) : RecordsKept s s.finishFrame :=
  (RecordsKept.of_eq rfl rfl rfl rfl rfl : RecordsKept s (State.frameDropped s)).trans (recordsKept_closeDone _)

theorem recordsKept_settleKit {s : State} (k : Nat) {r : KitRec} (h : s.recordsValid → RecSound r) (confirmed : Bool) :
    RecordsKept s (s.settleKit k r confirmed) :=
  (recordsKept_putRec k fun hv => recSound_settled (h hv)).postIf r.notify _ _

theorem recordsKept_countEntry (hold : Bool) (e : Entry) (s : State) : RecordsKept s (s.countEntry hold e).1 := by
  unfold State.countEntry
  dsimp only
  split
  · rename_i r hk
    have hcounted := fun hv => recSound_countedRec (recSound_of_kit hv hk) s.clock.absCycle
    split
    · split
      · dsimp only
        have hput := recordsKept_putRec e.kit hcounted
        split
        · exact hput.trans (recordsKept_raise _ _)
        · exact hput
      · have hsent : s.recordsValid →
            RecSound { countedRec s.clock.absCycle r with sends := sendsAfter s.settings hold r } := fun hv =>
          { hcounted hv with sends := sendsAfter_le (recSound_of_kit hv hk) s.settings hold }
        dsimp only
        split
        · exact recordsKept_settleKit e.kit hsent false
        · exact recordsKept_putRec e.kit hsent
    · exact .refl s
  · exact .refl s

theorem recordsKept_countEntries (hold : Bool) (es : List Entry) (s : State) :
    RecordsKept s (State.countEntries hold es s).1 := by
  induction es generalizing s with
  | nil => exact .refl s
  | cons e es ih => exact (recordsKept_countEntry hold e s).trans (ih _)

theorem recordsKept_openRoll (b : Burst) (ps : List Position) (s : State) : RecordsKept s (s.openRoll b ps) := by
  unfold State.openRoll
  dsimp only
  refine RecordsKept.trans ?_ (recordsKept_onBuilder _ _)
  split
  · split
    · exact recordsKept_closeRoll s _
    · exact .refl s
  · exact .refl s

theorem recordsKept_goOnAir (b : Burst) (s : State) : RecordsKept s (s.goOnAir b) := by
  unfold State.goOnAir
  dsimp only
  have hcounted := fun f => (recordsKept_onBuilder s f).trans (recordsKept_countEntries b.hold b.entries _)
  split
  · exact (hcounted _).then rfl rfl rfl rfl rfl
  · exact ((hcounted _).trans (recordsKept_openRoll b _ _)).then rfl rfl rfl rfl rfl

theorem recordsKept_builderAtSlotStart (s : State) : RecordsKept s s.builderAtSlotStart := by
  rcases builderAtSlotStart_cases s with ⟨b, -, -, -, h⟩ | ⟨-, ⟨b, -, -, h⟩ | ⟨-, h⟩⟩ <;> rw [h]
  · exact recordsKept_goOnAir b s
  · exact .of_eq rfl rfl rfl rfl rfl
  · exact .refl s

theorem recordsKept_applyReading {s : State} (k : Nat) {r : KitRec} (h : s.recordsValid → RecSound r) (held : Issue) :
    RecordsKept s (s.applyReading k held r) := by
  unfold State.applyReading
  split
  · have hraise := recordsKept_raise s .confirmed
    dsimp only
    split
    · exact (recordsKept_putRec (s := s) k fun hv => recSound_confirmed (h hv)).then rfl rfl rfl rfl rfl
    · exact hraise.trans (recordsKept_settleKit k (s := s.raise .confirmed) h true)
  · exact (recordsKept_putRec k fun hv => recSound_behindRec (h hv) held).then rfl rfl rfl rfl rfl
  · exact (recordsKept_putRec k h).then rfl rfl rfl rfl rfl

theorem recordsKept_receiptHeard {s : State} {k : Nat} {r : KitRec} (hk : s.kit k = .enrolled r) (roll : Roll) (f : Frame) :
    RecordsKept s (State.receiptHeard roll k f r s) := by
  have hposted : ∀ u : State, u.roster = s.roster → u.clock = s.clock → u.settings = s.settings → u.walk = s.walk →
      u.scheduler.lists = s.scheduler.lists →
      RecordsKept s (u.applyReading k (receiptIssue f.bytes) (heardRec f r)) := fun u hr hc hs hw hl =>
    (RecordsKept.of_eq hr hl hc hs hw).trans
      (recordsKept_applyReading k (fun hv => recSound_heardRec (recSound_of_kit hv ((kit_congr hr k).trans hk)) f) _)
  unfold State.receiptHeard
  dsimp only
  split <;> split <;> exact hposted _ rfl rfl rfl rfl rfl

theorem recordsKept_handleFrame (f : Frame) (s : State) : RecordsKept s (s.handleFrame f) := by
  unfold State.handleFrame
  split
  · exact (recordsKept_raise s _).trans (recordsKept_finishFrame _)
  · exact ((recordsKept_raise s _).postIf _ _ _).trans (recordsKept_finishFrame _)
  · exact ((recordsKept_raise s _).postIf _ _ _).trans (recordsKept_finishFrame _)
  · rename_i roll k r hj
    have hheard := recordsKept_receiptHeard (kit_of_judge hj) roll f
    obtain ⟨-, h⟩ | ⟨q, rest, -, h⟩ := acceptReceipt_cases s roll k f r <;> rw [h]
    · exact hheard.trans (recordsKept_finishFrame _)
    · exact hheard.then rfl rfl rfl rfl rfl

/-! ### Reckonings (R41, R52, R53, R63, R137) -/

theorem recordsKept_applyRecord {s : State} (k : Nat) {kit : Kit} (h : s.recordsValid → kit.valid = true) :
    RecordsKept s (s.applyRecord k kit) := (recordsKept_putKit k h).then rfl rfl rfl rfl rfl

theorem recordsKept_settleHand (s : State) : RecordsKept s s.settleHand := by
  rcases settleHand_cases s with h | ⟨c, -, -, -, -, h⟩ <;> rw [h]
  · exact .refl s
  · exact .of_eq rfl rfl rfl rfl rfl

theorem recordsKept_reckonBlock (h : Hand) (s : State) : RecordsKept s (s.reckonBlock h) := by
  unfold State.reckonBlock
  dsimp only
  split
  · exact (RecordsKept.of_eq rfl rfl rfl rfl rfl : RecordsKept s (s.setHand _)).trans (recordsKept_settleHand _)
  · rename_i hv
    exact (recordsKept_applyRecord _ fun _ => sound_enrolVerdict (ceiling_le s) _ _ _ _ _ hv).then rfl rfl rfl rfl rfl

theorem recordsKept_reckonLink (s : State) : RecordsKept s s.reckonLink := by
  unfold State.reckonLink
  split
  · exact .refl s
  · split
    · exact .refl s
    · split
      · exact recordsKept_reckonBlock _ s
      · dsimp only
        split
        · exact .of_eq rfl rfl rfl rfl rfl
        · rename_i hverdict
          exact (recordsKept_applyRecord _ fun hv => sound_commandVerdict hv _ _ (hv.2.2.2 _) _ _ _ hverdict).then
            rfl rfl rfl rfl rfl

theorem recordsKept_reckonWalker (s : State) : RecordsKept s s.reckonWalker := by
  unfold State.reckonWalker
  split
  · exact .refl s
  · rename_i w hw
    split
    · split
      · rename_i r hk
        split
        · have happly := recordsKept_applyRecord (s := s) w.next
            (kit := .enrolled (gracedRec s.clock.dh s.ceiling w.hours w.number r).1) fun hv =>
            valid_enrolled (recSound_gracedRec (recSound_of_kit hv hk) (ceiling_le s) (hv.2.2.1 w hw).2 _ _)
          exact happly.trans (recordsKept_finishIndex (s := s.applyRecord _ _) hw _)
        · exact recordsKept_finishIndex hw _
      · exact recordsKept_finishIndex hw _
    · exact .refl s

theorem recordsKept_reckonRequest (q : HandlerReq) (s : State) : RecordsKept s (State.reckonRequest q s) := by
  cases q with
  | completeMove k =>
    show RecordsKept s (s.reckonMove k)
    unfold State.reckonMove
    split
    · rename_i r hk
      split
      · exact (recordsKept_applyRecord k fun hv =>
          valid_enrolled (recSound_completedRec (recSound_of_kit hv hk))).trans (recordsKept_post _ _ _)
      · exact .refl s
    · exact .refl s
  | tamperHold k =>
    show RecordsKept s (s.reckonTamper k)
    unfold State.reckonTamper
    split
    · rename_i r hk
      split
      · exact (recordsKept_applyRecord k fun hv => valid_enrolled (recSound_withdrawnRec (recSound_of_kit hv hk)
          (Clock.inRange_iff.1 hv.1).1 false)).trans (recordsKept_post _ _ _)
      · exact .refl s
    · exact .refl s

theorem recordsKept_reckonHandler (s : State) : RecordsKept s s.reckonHandler := by
  cases hq : s.handler with
  | idle => simp only [State.reckonHandler, hq]; exact .refl s
  | stalled q second =>
    have hreq := recordsKept_reckonRequest q s
    rw [reckonHandler_stalled hq]
    cases second with
    | some q' => exact hreq.then rfl rfl rfl rfl rfl
    | none => exact hreq.trans (recordsKept_finishFrame _)

theorem recordsKept_serve (r : Requester) (s : State) : RecordsKept s (s.serve r) := by
  cases r with
  | link => exact recordsKept_reckonLink s
  | walker => exact recordsKept_reckonWalker s
  | handler => exact recordsKept_reckonHandler s

theorem recordsKept_serveIfFor (k : Nat) (s : State) (r : Requester) : RecordsKept s (s.serveIfFor k r) := by
  unfold State.serveIfFor
  split
  · exact recordsKept_serve r s
  · exact .refl s

theorem recordsKept_serveAccepted (r : Requester) (s : State) : RecordsKept s (s.serveAccepted r) := by
  unfold State.serveAccepted
  split
  · exact .refl s
  · dsimp only
    split
    · exact ((recordsKept_serve r s).trans (recordsKept_serveIfFor _ _ _)).trans (recordsKept_serveIfFor _ _ _)
    · exact recordsKept_serve r s

theorem recordsKept_giveRoom (n : Nat) (s : State) : RecordsKept s (s.giveRoom n) := by
  induction n generalizing s with
  | zero => exact .refl s
  | succ n ih =>
    unfold State.giveRoom
    split
    · split
      · exact ((recordsKept_serveAccepted _ s).trans (recordsKept_onStore _ _)).trans (ih _)
      · exact .refl s
    · exact .refl s

/-! ### Writes (R147 to R152) -/

theorem recordsKept_startRecordWrite (k : Nat) (rest : List Nat) (s : State) : RecordsKept s (s.startRecordWrite k rest) := by
  have hhead : RecordsKept s (State.headTaken k rest s) := .of_eq rfl rfl rfl rfl rfl
  unfold State.startRecordWrite
  dsimp only
  split
  · exact (hhead.trans (recordsKept_giveRoom 4 _)).then rfl rfl rfl rfl rfl
  · exact hhead.then rfl rfl rfl rfl rfl

theorem recordsKept_startNextWrite (s : State) : RecordsKept s s.startNextWrite := by
  rcases startNextWrite_cases s with ⟨h, -⟩ | ⟨-, -, h⟩ | ⟨k, rest, -, -, -, h⟩ <;> rw [h]
  · exact .refl s
  · exact .of_eq rfl rfl rfl rfl rfl
  · exact recordsKept_startRecordWrite k rest s

theorem recordsKept_tryAccept (r : Requester) (s : State) : RecordsKept s (s.tryAccept r) := by
  rcases tryAccept_cases s r with ⟨h, -⟩ | ⟨k, -, -, h⟩ <;> rw [h]
  · exact .refl s
  · exact (recordsKept_serveAccepted r s).trans (recordsKept_startNextWrite _)

theorem recordsKept_recordVerified (k : Nat) (s : State) : RecordsKept s (s.recordVerified k) := by
  rw [recordVerified_eq]
  have h : RecordsKept s (State.writeVerified k s) := .of_eq rfl rfl rfl rfl rfl
  exact (h.trans (recordsKept_settleHand _)).trans (recordsKept_startNextWrite _)

theorem recordsKept_settingsVerified (s : State) : RecordsKept s s.settingsVerified := by
  rw [settingsVerified_eq]
  have h : RecordsKept s (State.saveVerified s) := .of_eq rfl rfl rfl rfl rfl
  exact (h.trans (recordsKept_settleHand _)).trans (recordsKept_startNextWrite _)

theorem recordsKept_storeFault (t : StoreTarget) (e : Bool) (s : State) : RecordsKept s (s.storeFault t e) := by
  rw [storeFault_eq]
  have hstop : RecordsKept s (State.controllerStopped t e s) := .of_eq rfl rfl rfl rfl rfl
  have hwalk : ∀ u, RecordsKept u (State.walkAborted u) := fun u => by
    unfold State.walkAborted
    split
    · exact recordsKept_endWalk ..
    · exact .refl u
  have hhandler : ∀ u, RecordsKept u u.withdrawHandler := fun u => by
    unfold State.withdrawHandler
    split
    · exact recordsKept_finishFrame u
    · exact .refl u
  have hhand : ∀ u, RecordsKept u (State.handRefused u) := fun u => by
    unfold State.handRefused
    split
    · exact .of_eq rfl rfl rfl rfl rfl
    · exact .refl u
  exact ((hstop.trans (hwalk _)).trans (hhandler _)).trans (hhand _)

theorem recordsKept_attemptFailed (e : Bool) (s : State) : RecordsKept s (s.attemptFailed e) := by
  obtain ⟨k, image, n, -, ⟨-, h⟩ | ⟨-, h⟩⟩ | ⟨image, n, -, ⟨-, h⟩ | ⟨-, h⟩⟩ | h := attemptFailed_cases e s <;> rw [h]
  · exact .of_eq rfl rfl rfl rfl rfl
  · exact recordsKept_storeFault _ _ s
  · exact .of_eq rfl rfl rfl rfl rfl
  · exact recordsKept_storeFault _ _ s
  · exact .refl s

theorem recordsKept_memoryHolds (t : StoreTarget) (bs : List Byte) (s : State) : RecordsKept s (s.memoryHolds t bs) :=
  .of_eq rfl rfl rfl rfl rfl

theorem recordsKept_attemptReadBack (bs : List Byte) (s : State) : RecordsKept s (s.attemptReadBack bs) := by
  have held := fun t => recordsKept_memoryHolds t bs s
  unfold State.attemptReadBack
  split
  · unfold State.recordReadBack
    dsimp only
    split
    · exact (held _).trans (recordsKept_recordVerified _ _)
    · exact (held _).trans (recordsKept_attemptFailed _ _)
  · unfold State.settingsReadBack
    dsimp only
    split
    · exact (held _).trans (recordsKept_settingsVerified _)
    · exact (held _).trans (recordsKept_attemptFailed _ _)
  · exact .refl s

theorem recordsKept_attemptInError (left : List Byte) (s : State) : RecordsKept s (s.attemptInError left) := by
  unfold State.attemptInError
  split
  · exact (recordsKept_memoryHolds _ _ s).trans (recordsKept_attemptFailed _ _)
  · exact (recordsKept_memoryHolds _ _ s).trans (recordsKept_attemptFailed _ _)
  · exact .refl s

/-! ### The load (R35, R153) -/

theorem district_le (p : List Byte) : field p 0 2 ≤ 65535 := by
  have := field_lt p 0 2
  omega

/-- Every option byte that settings hold is below 64. -/
theorem options_lt (g : Settings) : g.options < 64 := by
  simp only [Settings.options, ofBits]
  have := fun b : Bool => Bool.toNat_le b
  have h1 := this g.uplink
  have h2 := this g.saveBad
  have h3 := this g.foreignPass
  have h4 := this g.usageNotices
  have h5 := this g.autoHold
  have h6 := this g.notePulse
  omega

/-- Settings whose fields passed their tests are in range, whatever option byte they came with. -/
theorem inRange_settingsOfBytes {p : List Byte} {options : Nat}
    (h : (fieldsInRange (settingsOfBytes p) options).all id = true) : (settingsOfBytes p).inRange = true := by
  simp only [Settings.inRange, fieldsInRange, List.all_cons, Bool.and_eq_true, decide_eq_true_eq, id_eq, List.all_nil] at h ⊢
  obtain ⟨h1, h2, h3, h4, h5, h6, h7, h8, h9, -⟩ := h
  exact ⟨district_le p, h1, h2, h3, h4, h5, h6, h7, h8, h9, options_lt _, trivial⟩

theorem recordsKept_loadSettings (read : Option (List Byte)) (s : State) : RecordsKept s (s.loadSettings read) := by
  have reject : ∀ reason, RecordsKept s (s.rejectSettings reason) := fun reason =>
    .of_ranges rfl rfl id (fun _ => recordsValid_reset.2.1) id
  unfold State.loadSettings
  split
  · exact (reject 2).trans (recordsKept_onStore _ _)
  · split
    · exact (reject _).trans (recordsKept_onStore _ _)
    · rename_i b hb
      refine RecordsKept.of_ranges rfl rfl id (fun _ => ?_) id
      unfold blockFault at hb
      split at hb
      · cases hb
      · split at hb
        · rename_i hg
          exact inRange_settingsOfBytes (Bool.and_eq_true _ _ ▸ hg).1
        · cases hb

/-- What a read of a kit record makes of the record: DAMAGED when the memory was in error, or as the bytes say (R35). -/
def kitOfRead (k : Nat) : Option (List Byte) → Kit
  | none => .damaged
  | some b => loadedKit k b

/-- The part with the record that was read in its place, and its notice posted when it is DAMAGED. -/
def State.kitRead (k : Nat) (read : Option (List Byte)) (s : State) : State :=
  if kitOfRead k read = .damaged then (s.putKit k (kitOfRead k read)).post .damaged (some k) else s.putKit k (kitOfRead k read)

/-- The load of a record is that record in its place, and then the next read or the end of the load. -/
theorem loadKit_eq (k : Nat) (read : Option (List Byte)) (s : State) : s.loadKit k read =
    if rosterSize ≤ k + 1 then ((State.kitRead k read s).onStore fun c => { c with mode := .idle }).setOp .standby
    else (State.kitRead k read s).onStore fun c => { c with mode := .readingKit (k + 1) } := by
  cases read <;> rfl

theorem recordsKept_loadKit (k : Nat) (read : Option (List Byte)) (s : State) : RecordsKept s (s.loadKit k read) := by
  have hput : ∀ kit : Kit, kit.valid = true →
      RecordsKept s (if kit = .damaged then (s.putKit k kit).post .damaged (some k) else s.putKit k kit) :=
    fun kit hkit => by
      have h : RecordsKept s (s.putKit k kit) := recordsKept_putKit k fun _ => hkit
      split
      · exact h.trans (recordsKept_post _ _ _)
      · exact h
  have hread : RecordsKept s (State.kitRead k read s) := by
    cases read with
    | none => exact hput .damaged rfl
    | some b => exact hput _ (valid_loadedKit k b)
  rw [loadKit_eq]
  split
  · exact hread.then rfl rfl rfl rfl rfl
  · exact hread.then rfl rfl rfl rfl rfl

theorem recordsKept_memoryTimeout (left : List Byte) (s : State) : RecordsKept s (s.memoryTimeout left) := by
  unfold State.memoryTimeout
  split
  · exact recordsKept_loadSettings ..
  · exact recordsKept_loadKit ..
  · exact recordsKept_attemptInError left s

theorem recordsKept_enterLoading (speed : Bool) (sending : List Reply) (s t : State) :
    RecordsKept t (s.enterLoading speed sending) := recordsKept_blank rfl rfl rfl rfl rfl

end Sys2Proof.Proofs
end

section
/-! PROOFS. Every command and event keeps the pending lists on the records, and the records, the settings and the walk's
number valid. -/

namespace Sys2Proof.Proofs

open Sys2Proof Sys2Proof.Machine Sys2Proof.Laws

/-! ### The frames (R160) -/

theorem recordsKept_answerNow (s : State) (k : CmdKind) (tag : Byte) (p : List Byte) (st : Status) (c : List Byte) :
    RecordsKept s (s.answerNow k tag p st c) := .of_eq rfl rfl rfl rfl rfl

theorem recordsKept_answerUntaken (r : Reply) (s : State) : RecordsKept s (s.answerUntaken r) := by
  unfold State.answerUntaken
  split
  · exact .of_eq rfl rfl rfl rfl rfl
  · exact recordsKept_raise s _

theorem recordsKept_requestRule (k : CmdKind) (tag : Byte) (p : List Byte) (s : State) :
    RecordsKept s (s.requestRule k tag p) := by
  unfold State.requestRule
  split
  · exact recordsKept_answerNow s ..
  · exact (RecordsKept.of_eq rfl rfl rfl rfl rfl : RecordsKept s (s.setHand (newHand k tag p))).trans
      (recordsKept_tryAccept _ _)

/-- A selection act changes no record and no list. -/
theorem recordsKept_beginPreparation (s : State) : RecordsKept s s.beginPreparation := by
  rcases beginPreparation_cases s with ⟨-, -, h⟩ | ⟨-, h⟩ <;> rw [h]
  · exact .of_eq rfl rfl rfl rfl rfl
  · exact .refl s

theorem recordsKept_discardPreparation (s : State) : RecordsKept s s.discardPreparation := .of_eq rfl rfl rfl rfl rfl

/-- The settings of a CONFIGURE whose fields are all in range are in range (R166). -/
theorem inRange_of_configure {p : List Byte} (h : firstBadField p = none) : (settingsOfBytes p).inRange = true := by
  simp only [firstBadField, Option.map_eq_none_iff, List.findIdx?_eq_none_iff] at h
  refine inRange_settingsOfBytes (options := field p 13 1) (List.all_eq_true.2 fun b hb => ?_)
  simpa using h b (List.mem_cons_of_mem _ hb)

theorem recordsKept_configureRule (tag : Byte) (p : List Byte) (s : State) : RecordsKept s (configureRule tag p s) := by
  unfold configureRule
  split
  · exact recordsKept_answerNow s ..
  · rename_i hp
    exact .of_ranges rfl rfl id (fun _ => inRange_of_configure hp) id

/-- SET CLOCK sets the clock in range (R6). -/
theorem recordsKept_setClockRule (tag : Byte) (p : List Byte) (s : State) : RecordsKept s (setClockRule tag p s) := by
  have hranges := (rangesKept_setClockRule tag p s).clock
  revert hranges
  unfold setClockRule
  split
  · exact fun _ => recordsKept_answerNow s ..
  · split
    · exact fun _ => recordsKept_answerNow s ..
    · exact fun h => .of_ranges rfl rfl h id id

/-- The walk that a GRACE starts has a number of its range (R60). -/
theorem recordsKept_graceRule (tag : Byte) (p : List Byte) (s : State) : RecordsKept s (graceRule tag p s) := by
  unfold graceRule
  split
  · exact recordsKept_answerNow s ..
  · rename_i hp
    split
    · exact recordsKept_answerNow s ..
    · have hn : 1 ≤ field p 0 1 ∧ field p 0 1 ≤ 255 := by
        simp only [graceOutOfRange, Bool.or_eq_true, decide_eq_true_eq, not_or, Nat.not_lt] at hp
        exact ⟨hp.1.1.1.1, hp.1.1.1.2⟩
      refine (recordsKept_setWalk (s := s) (w := some (startedWalk p)) fun _ w hw => ?_).trans (recordsKept_answerNow _ ..)
      cases hw
      exact hn

theorem recordsKept_ruleOf (k : CmdKind) (tag : Byte) (p : List Byte) (s : State) : RecordsKept s (ruleOf k tag p s) := by
  have answer := fun st c => recordsKept_answerNow s k tag p st c
  cases k with
  | identify => exact answer _ _
  | status => exact answer _ _
  | configure => exact recordsKept_configureRule tag p s
  | loadPattern =>
    show RecordsKept s (loadPatternRule tag p s)
    unfold loadPatternRule
    split
    · exact answer _ _
    · exact .of_eq rfl rfl rfl rfl rfl
  | saveSettings =>
    show RecordsKept s (saveSettingsRule tag p s)
    refine RecordsKept.trans ?_ (recordsKept_startNextWrite _)
    exact .of_eq rfl rfl rfl rfl rfl
  | setClock => exact recordsKept_setClockRule tag p s
  | start =>
    show RecordsKept s (startRule tag p s)
    unfold startRule
    split
    · exact answer _ _
    · split
      · exact answer _ _
      · refine RecordsKept.trans ?_ (recordsKept_beginPreparation _)
        exact .of_eq rfl rfl rfl rfl rfl
  | stop =>
    show RecordsKept s (stopRule tag p s)
    unfold stopRule
    split
    · exact answer _ _
    · exact .of_eq rfl rfl rfl rfl rfl
  | reset =>
    show RecordsKept s (resetRule tag p s)
    unfold resetRule
    split
    · exact .of_eq rfl rfl rfl rfl rfl
    · refine RecordsKept.trans (RecordsKept.trans ?_ (recordsKept_discardPreparation _)) (recordsKept_abortWalk _)
      exact (answer .ok []).then rfl rfl rfl rfl rfl
  | enrolBlock =>
    show RecordsKept s (enrolBlockRule tag p s)
    unfold enrolBlockRule
    split
    · exact answer _ _
    · exact recordsKept_requestRule _ _ _ _
  | readKit =>
    show RecordsKept s (readKitRule tag p s)
    unfold readKitRule
    dsimp only
    split <;> exact answer _ _
  | grace => exact recordsKept_graceRule tag p s
  | graceAbort =>
    show RecordsKept s (graceAbortRule tag p s)
    unfold graceAbortRule
    split
    · exact answer _ _
    · exact (answer _ _).trans (recordsKept_abortWalk _)
  | fetchNotices => exact .of_eq rfl rfl rfl rfl rfl
  | counters => exact .of_eq rfl rfl rfl rfl rfl
  | enrol => exact recordsKept_requestRule _ _ _ _
  | retire => exact recordsKept_requestRule _ _ _ _
  | restore => exact recordsKept_requestRule _ _ _ _
  | grant => exact recordsKept_requestRule _ _ _ _
  | setHorizon => exact recordsKept_requestRule _ _ _ _
  | withdraw => exact recordsKept_requestRule _ _ _ _
  | resume => exact recordsKept_requestRule _ _ _ _
  | move => exact recordsKept_requestRule _ _ _ _

theorem recordsKept_receiveFrame (k : CmdKind) (tag : Byte) (p : List Byte) (s : State) :
    RecordsKept s (s.receiveFrame k tag p (ruleOf k)) := by
  have hw : RecordsKept s (State.waiting s) := .of_eq rfl rfl rfl rfl rfl
  obtain ⟨-, h⟩ | ⟨-, ⟨r, h⟩ | h | ⟨-, st, c, h⟩ | ⟨-, h⟩⟩ := receiveFrame_cases k tag p (ruleOf k) s <;> rw [h]
  · exact .refl s
  · exact hw.trans (recordsKept_answerUntaken r _)
  · exact hw.trans (recordsKept_raise _ _)
  · exact hw.trans (recordsKept_answerNow _ k tag p st c)
  · exact hw.trans (recordsKept_ruleOf k tag p _)

theorem recordsKept_receiveUnknown (kind tag : Byte) (s : State) : RecordsKept s (s.receiveUnknown kind tag) := by
  unfold State.receiveUnknown
  split
  · exact (RecordsKept.of_eq rfl rfl rfl rfl rfl : RecordsKept s (State.waiting s)).trans (recordsKept_answerUntaken _ _)
  · exact .refl s

theorem recordsKept_rejectFrame (r : RejectReason) (s : State) : RecordsKept s (s.rejectFrame r) := by
  unfold State.rejectFrame
  dsimp only
  split <;> exact .of_eq rfl rfl rfl rfl rfl

theorem recordsKept_frameChecked (n : Nat) (body check : List Byte) (s : State) :
    RecordsKept s (s.frameChecked n body check) := by
  unfold State.frameChecked
  split
  · split
    · split
      · exact recordsKept_receiveFrame ..
      · exact recordsKept_receiveUnknown ..
    · exact recordsKept_rejectFrame ..
  · exact recordsKept_rejectFrame ..

theorem recordsKept_takeLinkByte (b : Byte) (s : State) : RecordsKept s (s.takeLinkByte b) := by
  have goTo : ∀ r, RecordsKept s (s.onLink fun l => { l with receiver := r }) := fun r => .of_eq rfl rfl rfl rfl rfl
  unfold State.takeLinkByte
  dsimp only
  split
  · split
    · exact goTo _
    · exact .refl s
  · split
    · exact recordsKept_rejectFrame ..
    · exact goTo _
  · split <;> exact goTo _
  · exact goTo _
  · exact recordsKept_frameChecked ..

/-! ### Time and the uplink -/

theorem recordsKept_onClock {s : State} {f : Clock → Clock} (h : s.clock.inRange = true → (f s.clock).inRange = true) :
    RecordsKept s (s.onClock f) := .of_ranges rfl rfl h id id

theorem recordsKept_takeSlotStart (s : State) : RecordsKept s s.takeSlotStart := by
  have hclock : RecordsKept s ((s.onClock Clock.atSlotStart).onBuilder fun q => { q with slotRoll := none }) :=
    (recordsKept_onClock Clock.inRange_atSlotStart).trans (recordsKept_onBuilder _ _)
  exact (hclock.trans (recordsKept_builderAtSlotStart _)).trans (.of_eq rfl rfl rfl rfl rfl)

theorem recordsKept_takeDownlinkWindowEnd (s : State) : RecordsKept s s.takeDownlinkWindowEnd := by
  have hclock : RecordsKept s (s.onClock fun c => { c with timer := .reply 1 }) := recordsKept_onClock id
  unfold State.takeDownlinkWindowEnd
  dsimp only
  split
  · exact hclock.trans (recordsKept_beginPreparation _)
  · exact hclock

theorem recordsKept_closeSubWindow (s : State) : RecordsKept s s.closeSubWindow := by
  rcases closeSubWindow_cases s with h | h <;> rw [h]
  · exact .refl s
  · exact recordsKept_raise s _

theorem recordsKept_windowOver (s : State) : RecordsKept s (State.windowOver s) := by
  unfold State.windowOver
  refine RecordsKept.trans ?_ (recordsKept_onClock Clock.inRange_atReplyWindowEnd)
  exact (recordsKept_closeSubWindow s).then rfl rfl rfl rfl rfl

theorem recordsKept_completeFrame (bs : List Byte) (s : State) : RecordsKept s (s.completeFrame bs) := by
  unfold State.completeFrame
  split
  · split <;> exact .of_eq rfl rfl rfl rfl rfl
  · exact .refl s

theorem recordsKept_takeUplinkByte (b : Byte) (s : State) : RecordsKept s (s.takeUplinkByte b) := by
  have mode : ∀ m, RecordsKept s (s.setMode m) := fun m => .of_eq rfl rfl rfl rfl rfl
  unfold State.takeUplinkByte
  split
  · split
    · exact mode _
    · exact .refl s
  · split
    · exact mode _
    · split
      · exact .refl s
      · exact mode _
  · split
    · exact mode _
    · exact recordsKept_completeFrame _ s
  · exact .refl s

theorem recordsKept_takeUplinkError (s : State) : RecordsKept s s.takeUplinkError := by
  unfold State.takeUplinkError
  split
  · exact .refl s
  · exact .of_eq rfl rfl rfl rfl rfl
  · exact .of_eq rfl rfl rfl rfl rfl
  · exact .refl s

theorem recordsKept_examineNext (s : State) : RecordsKept s s.examineNext := by
  unfold State.examineNext
  split
  · rename_i w hw
    split
    · exact .refl s
    · split
      · exact recordsKept_walkOn hw rfl
      · exact recordsKept_finishIndex hw _
  · exact .refl s

/-! ### Every command and event -/

/-- An event that takes effect under a condition keeps the records and the lists if its effect does. -/
theorem recordsKept_if {s t : State} (c : Bool) (h : RecordsKept s t) : RecordsKept s (if c then t else s) := by
  cases c
  · exact .refl s
  · exact h

theorem recordsKept_exec (c : Instr) (s : State) : ∃ t, exec c s = .next t ∧ RecordsKept s t := by
  cases c using Instr.byFrame with
  | command k tag p => exact ⟨_, exec_commandOf k tag p s, recordsKept_receiveFrame k tag p s⟩
  | powerUp speed => exact ⟨_, rfl, recordsKept_enterLoading ..⟩
  | resetPinAsserted tear => exact ⟨_, rfl, recordsKept_blank rfl rfl rfl rfl rfl⟩
  | powerLoss tear => exact ⟨_, rfl, recordsKept_blank rfl rfl rfl rfl rfl⟩
  | resetPinDeasserted speed =>
    refine ⟨_, rfl, recordsKept_if _ ?_⟩
    split
    · exact recordsKept_enterLoading ..
    · exact .of_eq rfl rfl rfl rfl rfl
  | referenceClockStops => exact ⟨_, rfl, .of_eq rfl rfl rfl rfl rfl⟩
  | referenceClockReturns => exact ⟨_, rfl, .of_eq rfl rfl rfl rfl rfl⟩
  | slotStart => exact ⟨_, rfl, recordsKept_if _ (recordsKept_takeSlotStart s)⟩
  | downlinkWindowEnd => exact ⟨_, rfl, recordsKept_if _ (recordsKept_takeDownlinkWindowEnd s)⟩
  | replySubWindowStart k =>
    have hclock := (recordsKept_closeSubWindow s).trans (recordsKept_onClock (f := fun c => { c with timer := .reply k }) id)
    exact ⟨_, rfl, recordsKept_if _ (hclock.then rfl rfl rfl rfl rfl)⟩
  | replyWindowEnd =>
    exact ⟨_, rfl, recordsKept_if _ ((recordsKept_windowOver s).trans (recordsKept_closeDone _))⟩
  | hourTick => exact ⟨_, rfl, recordsKept_if _ (recordsKept_onClock Clock.inRange_atHourTick)⟩
  | preparationComplete =>
    refine ⟨_, rfl, recordsKept_if _ ?_⟩
    unfold State.takePreparationComplete
    split
    · exact recordsKept_onBuilder _ _
    · exact .refl s
  | burstComplete => exact ⟨_, rfl, recordsKept_if _ (recordsKept_onBuilder _ _)⟩
  | uplinkFrameComplete b =>
    refine ⟨_, rfl, ?_⟩
    split
    · exact recordsKept_if _ (recordsKept_completeFrame _ s)
    · exact .refl s
  | uplinkByteError => exact ⟨_, rfl, recordsKept_if _ (recordsKept_takeUplinkError s)⟩
  | uplinkByteArrival b => exact ⟨_, rfl, recordsKept_if _ (recordsKept_takeUplinkByte b s)⟩
  | receiptHandle =>
    refine ⟨_, rfl, ?_⟩
    split
    · exact recordsKept_if _ (recordsKept_handleFrame _ s)
    · exact .refl s
  | moveCompletion =>
    refine ⟨_, rfl, ?_⟩
    split
    · exact recordsKept_if _ (recordsKept_tryAccept _ s)
    · exact .refl s
  | withdrawalOnTamper =>
    refine ⟨_, rfl, ?_⟩
    split
    · exact recordsKept_if _ (recordsKept_tryAccept _ s)
    · exact .refl s
  | graceExamine => exact ⟨_, rfl, recordsKept_if _ (recordsKept_examineNext s)⟩
  | graceReckoning => exact ⟨_, rfl, recordsKept_if _ (recordsKept_tryAccept _ s)⟩
  | commandReckoning => exact ⟨_, rfl, recordsKept_if _ (recordsKept_tryAccept _ s)⟩
  | storeAttemptComplete e =>
    refine ⟨_, rfl, recordsKept_if _ ?_⟩
    cases e with
    | good => exact recordsKept_attemptReadBack _ s
    | readBack bs => exact recordsKept_attemptReadBack bs s
    | inError left => exact recordsKept_attemptInError left s
  | storeMemoryTimeout left => exact ⟨_, rfl, recordsKept_if _ (recordsKept_memoryTimeout left s)⟩
  | settingsBlockRead r =>
    refine ⟨_, rfl, ?_⟩
    split
    · exact recordsKept_if _ (recordsKept_loadSettings _ s)
    · exact .refl s
  | kitRecordRead r =>
    refine ⟨_, rfl, ?_⟩
    split
    · exact recordsKept_if _ (recordsKept_loadKit _ _ s)
    · exact .refl s
  | closingDrainComplete speed => exact ⟨_, rfl, recordsKept_if _ (recordsKept_enterLoading ..)⟩
  | replySent speed =>
    refine ⟨_, rfl, recordsKept_if _ ?_⟩
    unfold State.takeReplySent
    split
    · exact .refl s
    · split
      · exact recordsKept_enterLoading ..
      · exact .of_eq rfl rfl rfl rfl rfl
  | notePulseEnd => exact ⟨_, rfl, recordsKept_if _ (.of_eq rfl rfl rfl rfl rfl)⟩
  | linkFrameReject r => exact ⟨_, rfl, recordsKept_if _ (recordsKept_rejectFrame r s)⟩
  | linkGapExpiry => exact ⟨_, rfl, recordsKept_if _ (recordsKept_rejectFrame .gap s)⟩
  | unknownKindFrame kind tag => exact ⟨_, rfl, recordsKept_receiveUnknown kind tag s⟩
  | linkByteArrival b => exact ⟨_, rfl, recordsKept_if _ (recordsKept_takeLinkByte b s)⟩

theorem recordsKept_step {s t : State} (h : step s = .next t) : RecordsKept s t := by
  obtain ⟨-, rfl⟩ | ⟨c, rest, -, he⟩ := step_cases h
  · exact .refl t
  · obtain ⟨u, hu, hk⟩ := recordsKept_exec c { s with pending := rest }
    cases he.symm.trans hu
    exact (RecordsKept.of_eq rfl rfl rfl rfl rfl : RecordsKept s { s with pending := rest }).trans hk

/-- Settles O58: each command and event changes records only by putting one in its place, which takes the lists with it. -/
theorem everyStepKeepsTheListsOnTheRecords : Obligations.EveryStepKeepsTheListsOnTheRecords := by
  intro s t hc hf h
  simp only [State.tablesCanonical, Bool.and_eq_true] at hc
  obtain ⟨⟨⟨⟨hroster, hlists⟩, -⟩, -⟩, -⟩ := hc
  exact ((recordsKept_step h).sound ⟨hroster, hlists, hf⟩).follow

/-- Settles O59: every record that a command or event puts in its place is made from values in their ranges. -/
theorem everyStepKeepsTheRecordsValid : Obligations.EveryStepKeepsTheRecordsValid :=
  fun _ _ hv h => (recordsKept_step h).valid hv

end Sys2Proof.Proofs
end

section
/-! SUPPORT. The request of a command in hand when the dirty queue has room for it and nobody else waits: what its reckoning
leaves of the part, whether it is answered or its record applied (R24, R28, R41, R146, R147, R150). -/

namespace Sys2Proof.Proofs

open Sys2Proof Sys2Proof.Machine Sys2Proof.Laws

/-! ### Room for one request (R146, R147) -/

/-- What `State.roomFor` says: the queue takes the index, nobody else waits, and no write is due. -/
theorem roomFor_iff {s : State} {k : Nat} : s.roomFor k = true ↔ s.canAccept k = true ∧ s.wants .walker = none ∧
    s.wants .handler = none ∧ (s.store.mode ≠ .idle ∨ (s.store.queue = [] ∧ s.store.owed = false)) := by
  simp [State.roomFor, and_assoc]

/-- With no write due none starts. -/
theorem startNextWrite_rests {s : State} (h : s.store.mode ≠ .idle ∨ (s.store.queue = [] ∧ s.store.owed = false)) :
    s.startNextWrite = s := by
  obtain ⟨he, -⟩ | ⟨hm, ho, -⟩ | ⟨k, rest, hm, -, hq, -⟩ := startNextWrite_cases s
  · exact he
  · obtain h | ⟨-, h⟩ := h
    · exact absurd hm h
    · rw [h] at ho; cases ho
  · obtain h | ⟨h, -⟩ := h
    · exact absurd hm h
    · rw [h] at hq; cases hq

/-- A lone index in the queue of an IDLE controller is written at once, and no room is given out. -/
theorem startNextWrite_lone {s : State} {k : Nat} (hm : s.store.mode = .idle) (ho : s.store.owed = false)
    (hq : s.store.queue = [k]) : s.startNextWrite =
      (State.headTaken k [] s).onStore fun c => { c with mode := .writing k (recordImage k (s.kit k)) 1 } := by
  obtain ⟨-, h | ⟨-, h⟩⟩ | ⟨-, h, -⟩ | ⟨j, rest, -, -, h, he⟩ := startNextWrite_cases s
  · exact absurd hm h
  · rw [h] at hq; cases hq
  · rw [ho] at h; cases h
  · rw [h] at hq
    cases hq
    have hfull : decide (queueCapacity ≤ s.store.queue.length) = false := by rw [h]; rfl
    rw [he, State.startRecordWrite, hfull]
    rfl

/-- The link's request is reckoned alone when no other requester waits. -/
theorem tryAccept_link_alone {s : State} {k : Nat} (hw : s.wants .link = some k) (hk : s.canAccept k = true)
    (h1 : s.reckonLink.wants .walker = none) (h2 : s.reckonLink.wants .handler = none) :
    s.tryAccept .link = s.reckonLink.startNextWrite := by
  obtain ⟨-, h⟩ | ⟨j, -, -, h⟩ := tryAccept_cases s .link
  · rw [h k hw] at hk; cases hk
  · rw [h, serveAccepted_alone hw (by rw [Requester.next]; exact h1 ▸ nofun) (by rw [Requester.next]; exact h2 ▸ nofun)]
    rfl

/-! ### A record applied for the command in hand -/

/-- The record was applied for the command in hand, whose reply waits for its write: the lists follow, the index waits to be
written or its write has started, and nothing else changed. -/
structure AppliedFor (s t : State) (k : Nat) (kit : Kit) (h : Hand) : Prop where
  only     : s.onlyRecords t
  record   : s.recordIs t k kit
  unsaved  : t.unsaved k = true
  receiver : t.link.receiver = s.link.receiver
  hand     : ∃ awaits, t.link.hand = some { h with awaits := awaits } ∧ awaits.map Prod.fst = h.awaits.map Prod.fst

/-- Marking the replies that wait for a record's write changes none of the kits waited for. -/
theorem map_fst_markStarted (k : Nat) (h : Hand) : (markStarted k h).awaits.map Prod.fst = h.awaits.map Prod.fst := by
  rw [markStarted, List.map_map]
  refine List.map_congr_left fun a _ => ?_
  show (if a.1 = k then (k, true) else a).1 = a.1
  split
  · rename_i ha; exact ha.symm
  · rfl

/-- What applying a record makes of the part (R24). -/
theorem applyRecord_fields (s : State) (k : Nat) (kit : Kit) : s.applyRecord k kit = { s with
    roster := setAt .free k kit s.roster
    scheduler := { s.scheduler with lists := relist k kit.requiredSlots s.scheduler.lists }
    store := { s.store with queue := if k ∈ s.store.queue then s.store.queue else s.store.queue ++ [k] } } := by
  by_cases hk : k ∈ s.store.queue <;> simp [State.applyRecord, State.enqueue, State.onStore, State.putKit, State.onRoster,
    State.onScheduler, hk]

theorem unsaved_of_mem {s : State} {k : Nat} (h : k ∈ s.store.queue) : s.unsaved k = true := by
  simp [State.unsaved, h]

theorem unsaved_of_writing {s : State} {k : Nat} {image : List Byte} {n : Nat} (h : s.store.mode = .writing k image n) :
    s.unsaved k = true := by
  simp [State.unsaved, h]

theorem mem_queue_applyRecord (s : State) (k : Nat) (kit : Kit) : k ∈ (s.applyRecord k kit).store.queue :=
  mem_enqueue (s.putKit k kit) k

theorem recordIs_applyRecord {s : State} (hc : s.tablesCanonical = true) (k : Nat) (kit : Kit) :
    s.recordIs (s.applyRecord k kit) k kit := recordIs_putKit hc k kit

/-- A record is applied and the command in hand waits for its write; then the write starts if the controller is IDLE. -/
theorem appliedFor_applyRecord {s : State} {k : Nat} (hc : s.tablesCanonical = true) (hroom : s.roomFor k = true)
    (kit : Kit) (h : Hand) : AppliedFor s ((s.applyRecord k kit).setHand h).startNextWrite k kit h := by
  obtain ⟨-, -, -, hm⟩ := roomFor_iff.1 hroom
  have hrec : s.recordIs ((s.applyRecord k kit).setHand h) k kit := recordIs_applyRecord hc k kit
  by_cases hi : s.store.mode = .idle
  · obtain ⟨hq, ho⟩ := hm.resolve_left (not_not_intro hi)
    have hone : ((s.applyRecord k kit).setHand h).store.queue = [k] := by
      show (s.applyRecord k kit).store.queue = [k]
      rw [applyRecord_fields, hq]; rfl
    have hmode : ((s.applyRecord k kit).setHand h).store.mode = .idle := by
      show (s.applyRecord k kit).store.mode = .idle
      rw [applyRecord_fields]; exact hi
    have howed : ((s.applyRecord k kit).setHand h).store.owed = false := by
      show (s.applyRecord k kit).store.owed = false
      rw [applyRecord_fields]; exact ho
    rw [startNextWrite_lone hmode howed hone]
    refine ⟨?_, hrec, unsaved_of_writing rfl, rfl, _, rfl, map_fst_markStarted k h⟩
    show _ = _
    rw [applyRecord_fields]
    rfl
  · have hmode : ((s.applyRecord k kit).setHand h).store.mode ≠ .idle := by
      show (s.applyRecord k kit).store.mode ≠ .idle
      rw [applyRecord_fields]; exact hi
    rw [startNextWrite_rests (.inl hmode)]
    refine ⟨?_, hrec, unsaved_of_mem (mem_queue_applyRecord s k kit), rfl, _, rfl, rfl⟩
    show _ = _
    rw [applyRecord_fields]
    rfl

/-! ### The command in hand reckoned (R41) -/

/-- The commands that make a request of the one kit they name. -/
theorem target_of_hand {h : Hand} (hr : h.reckoned = false) (hk : h.kind ≠ .enrolBlock) : h.target = some (kitArg h.payload) := by
  simp [Hand.target, hr, hk]

theorem target_of_block {h : Hand} (hr : h.reckoned = false) (hk : h.kind = .enrolBlock) :
    h.target = some (kitArg h.payload + h.enrolled) := by
  simp [Hand.target, hr, hk]

/-- A command whose index the queue cannot take waits. -/
theorem tryAccept_link_waits {s : State} {h : Hand} (hh : s.link.hand = some h) {k : Nat} (ht : h.target = some k)
    (hk : s.canAccept k = false) : s.tryAccept .link = s := by
  have hw : s.wants .link = some k := by rw [State.wants, hh]; exact ht
  obtain ⟨he, -⟩ | ⟨j, hj, hacc, -⟩ := tryAccept_cases s .link
  · exact he
  · rw [hw] at hj
    cases hj
    rw [hk] at hacc
    cases hacc

/-- With room for it and nobody else waiting, the command in hand is reckoned and then a write may start. -/
theorem tryAccept_link_room {s t : State} {h : Hand} (hh : s.link.hand = some h) {k : Nat} (ht : h.target = some k)
    (hroom : s.roomFor k = true) (he : s.reckonLink = t) (hwalk : t.walk = s.walk) (hhandler : t.handler = s.handler) :
    s.tryAccept .link = t.startNextWrite := by
  obtain ⟨hk, h1, h2, -⟩ := roomFor_iff.1 hroom
  have hw : s.wants .link = some k := by rw [State.wants, hh]; exact ht
  subst he
  refine tryAccept_link_alone hw hk ?_ ?_
  · rw [State.wants, hwalk]; exact h1
  · simp only [State.wants, hhandler]; exact h2

/-- A command whose verdict is an answer is answered, and nothing but the link changes. -/
theorem tryAccept_link_answers {s : State} {h : Hand} (hh : s.link.hand = some h) (hr : h.reckoned = false)
    (hk : h.kind ≠ .enrolBlock) (hroom : s.roomFor (kitArg h.payload) = true) {st : Status} {content : List Byte}
    (hv : commandVerdict s h.kind h.payload (s.kit (kitArg h.payload)) = .answer st content) :
    s.tryAccept .link = s.answerHand h st content := by
  have he : s.reckonLink = s.answerHand h st content := by
    obtain ⟨_, _, hv', he⟩ | ⟨_, _, _, hv', -⟩ := reckonLink_cases hh hr hk <;> rw [hv] at hv' <;> cases hv'
    exact he
  obtain ⟨-, -, -, hm⟩ := roomFor_iff.1 hroom
  rw [tryAccept_link_room hh (target_of_hand hr hk) hroom he rfl rfl]
  exact startNextWrite_rests hm

/-- A command whose verdict is a new record applies it and waits for its write. -/
theorem tryAccept_link_applies {s : State} {h : Hand} (hh : s.link.hand = some h) (hr : h.reckoned = false)
    (hk : h.kind ≠ .enrolBlock) (hc : s.tablesCanonical = true) (hroom : s.roomFor (kitArg h.payload) = true) {kit : Kit}
    {st : Status} {content : List Byte}
    (hv : commandVerdict s h.kind h.payload (s.kit (kitArg h.payload)) = .apply kit st content) :
    AppliedFor s (s.tryAccept .link) (kitArg h.payload) kit
      { h with reckoned := true, status := st, content := content, awaits := [(kitArg h.payload, false)] } := by
  have he : s.reckonLink = (s.applyRecord (kitArg h.payload) kit).setHand
      { h with reckoned := true, status := st, content := content, awaits := [(kitArg h.payload, false)] } := by
    obtain ⟨_, _, hv', -⟩ | ⟨_, _, _, hv', he⟩ := reckonLink_cases hh hr hk <;> rw [hv] at hv' <;> cases hv'
    exact he
  rw [tryAccept_link_room hh (target_of_hand hr hk) hroom he rfl rfl]
  exact appliedFor_applyRecord hc hroom kit _

/-! ### ENROL BLOCK (R29, R30) -/

/-- The command in hand after a record of an ENROL BLOCK was enrolled: it waits for one write more, and the block ends at its
count or at the end of the roster. -/
def blockEnrolled (h : Hand) : Hand :=
  let k := kitArg h.payload + h.enrolled
  let h' := { h with enrolled := h.enrolled + 1, awaits := h.awaits ++ [(k, false)] }
  if field h.payload 2 1 ≤ h.enrolled + 1 then { h' with reckoned := true, status := .ok, content := [] }
  else if rosterSize ≤ k + 1 then { h' with reckoned := true, status := .noKit, content := [] }
  else h'

/-- What an ENROL BLOCK's reply is after a record was enrolled. -/
theorem blockEnrolled_fields (h : Hand) (hr : h.reckoned = false) :
    (blockEnrolled h).kind = h.kind ∧ (blockEnrolled h).tag = h.tag ∧ (blockEnrolled h).payload = h.payload ∧
      (blockEnrolled h).settings = h.settings ∧ (blockEnrolled h).enrolled = h.enrolled + 1 ∧
      (blockEnrolled h).awaits = h.awaits ++ [(kitArg h.payload + h.enrolled, false)] ∧
      ((blockEnrolled h).reckoned = true ↔
        field h.payload 2 1 ≤ h.enrolled + 1 ∨ 4095 ≤ kitArg h.payload + h.enrolled) ∧
      ((blockEnrolled h).reckoned = true → (blockEnrolled h).content = [] ∧
        (blockEnrolled h).status = if field h.payload 2 1 ≤ h.enrolled + 1 then .ok else .noKit) := by
  unfold blockEnrolled
  dsimp only
  by_cases hn : field h.payload 2 1 ≤ h.enrolled + 1
  · simp [hn]
  · by_cases hk : rosterSize ≤ kitArg h.payload + h.enrolled + 1
    · have hk' : 4095 ≤ kitArg h.payload + h.enrolled := Nat.le_of_succ_le_succ hk
      simp [hn, hk, hk']
    · have hk' : ¬ 4095 ≤ kitArg h.payload + h.enrolled := fun h => hk (Nat.succ_le_succ h)
      simp [hn, hk, hk', hr]

theorem reckonLink_block {s : State} {h : Hand} (hh : s.link.hand = some h) (hr : h.reckoned = false)
    (hk : h.kind = .enrolBlock) : s.reckonLink = s.reckonBlock h := by
  simp only [State.reckonLink, hh]
  rw [if_neg (by rw [hr]; exact Bool.false_ne_true), if_pos hk]

/-- A record of an ENROL BLOCK that cannot be enrolled stops the block with its refusal (R29). -/
theorem reckonBlock_stops {s : State} {h : Hand} {st : Status} {content : List Byte}
    (hv : enrolVerdict s.ceiling (blockArgs h.payload h.enrolled) (s.kit (kitArg h.payload + h.enrolled)) =
      .answer st content) :
    s.reckonBlock h = (s.setHand { h with reckoned := true, status := st, content := content }).settleHand := by
  simp only [State.reckonBlock, hv]

/-- A record of an ENROL BLOCK that can be enrolled is, and the block waits for its write (R29, R30). -/
theorem reckonBlock_enrols {s : State} {h : Hand} {kit : Kit} {st : Status} {content : List Byte}
    (hv : enrolVerdict s.ceiling (blockArgs h.payload h.enrolled) (s.kit (kitArg h.payload + h.enrolled)) =
      .apply kit st content) :
    s.reckonBlock h = (s.applyRecord (kitArg h.payload + h.enrolled) kit).setHand (blockEnrolled h) := by
  unfold State.reckonBlock
  simp only [hv]
  rfl

/-- With room, an ENROL BLOCK that can go on enrols its next kit. -/
theorem tryAccept_block_enrols {s : State} {h : Hand} (hh : s.link.hand = some h) (hr : h.reckoned = false)
    (hk : h.kind = .enrolBlock) (hc : s.tablesCanonical = true)
    (hroom : s.roomFor (kitArg h.payload + h.enrolled) = true) {kit : Kit} {st : Status} {content : List Byte}
    (hv : enrolVerdict s.ceiling (blockArgs h.payload h.enrolled) (s.kit (kitArg h.payload + h.enrolled)) =
      .apply kit st content) :
    AppliedFor s (s.tryAccept .link) (kitArg h.payload + h.enrolled) kit (blockEnrolled h) := by
  rw [tryAccept_link_room hh (target_of_block hr hk) hroom
    ((reckonLink_block hh hr hk).trans (reckonBlock_enrols hv)) rfl rfl]
  exact appliedFor_applyRecord hc hroom kit _

/-- With room, an ENROL BLOCK that cannot go on and waits for no write is answered with its refusal. -/
theorem tryAccept_block_answers {s : State} {h : Hand} (hh : s.link.hand = some h) (hr : h.reckoned = false)
    (hk : h.kind = .enrolBlock) (hroom : s.roomFor (kitArg h.payload + h.enrolled) = true) (ha : h.awaits = [])
    (hs : h.settings = false) {st : Status} {content : List Byte}
    (hv : enrolVerdict s.ceiling (blockArgs h.payload h.enrolled) (s.kit (kitArg h.payload + h.enrolled)) =
      .answer st content) :
    s.tryAccept .link = s.answerHand h st content := by
  have hsettle : (s.setHand { h with reckoned := true, status := st, content := content }).settleHand =
      s.answerHand h st content := by
    simp only [State.settleHand, setHand_link, ha, hs]
    rfl
  obtain ⟨-, -, -, hm⟩ := roomFor_iff.1 hroom
  rw [tryAccept_link_room hh (target_of_block hr hk) hroom
    (((reckonLink_block hh hr hk).trans (reckonBlock_stops hv)).trans hsettle) rfl rfl]
  exact startNextWrite_rests hm

/-- With room, an ENROL BLOCK that cannot go on and waits for writes holds its refusal for the reply. -/
theorem tryAccept_block_holds {s : State} {h : Hand} (hh : s.link.hand = some h) (hr : h.reckoned = false)
    (hk : h.kind = .enrolBlock) (hroom : s.roomFor (kitArg h.payload + h.enrolled) = true) (ha : h.awaits ≠ [])
    {st : Status} {content : List Byte}
    (hv : enrolVerdict s.ceiling (blockArgs h.payload h.enrolled) (s.kit (kitArg h.payload + h.enrolled)) =
      .answer st content) :
    s.tryAccept .link = s.setHand { h with reckoned := true, status := st, content := content } := by
  have hsettle : (s.setHand { h with reckoned := true, status := st, content := content }).settleHand =
      s.setHand { h with reckoned := true, status := st, content := content } := by
    have he : h.awaits.isEmpty = false := by simpa using ha
    simp only [State.settleHand, setHand_link, he]
    rfl
  obtain ⟨-, -, -, hm⟩ := roomFor_iff.1 hroom
  rw [tryAccept_link_room hh (target_of_block hr hk) hroom
    (((reckonLink_block hh hr hk).trans (reckonBlock_stops hv)).trans hsettle) rfl rfl]
  exact startNextWrite_rests hm

/-! ### Requests as frames (R24, R26) -/

theorem requestRule_named {p : List Byte} (hp : field p 0 2 ≤ 4095) (k : CmdKind) (tag : Byte) (s : State) :
    s.requestRule k tag p = (s.setHand (newHand k tag p)).tryAccept .link :=
  if_neg (show ¬ 4096 ≤ field p 0 2 by omega)

theorem requestRule_noKit {p : List Byte} (hp : 4096 ≤ field p 0 2) (k : CmdKind) (tag : Byte) (s : State) :
    s.requestRule k tag p = s.answerNow k tag p .noKit [] := if_pos hp

/-- A command that makes a request of a kit and whose request is refused is answered, and nothing else changes. -/
theorem exec_refused {k : CmdKind} {tag : Byte} {p : List Byte} {s : State} (h : s.ready k tag p = true)
    (hk : k ≠ .enrolBlock) (hrule : ∀ u, ruleOf k tag p u = u.requestRule k tag p) (hp : field p 0 2 ≤ 4095)
    (hroom : s.roomFor (field p 0 2) = true) {st : Status} {content : List Byte}
    (hv : commandVerdict s k p (s.kit (field p 0 2)) = .answer st content) :
    exec (commandOf k tag p) s = .next (s.answered k tag p st content) := by
  refine exec_answered h hk ?_
  rw [hrule, requestRule_named hp,
    tryAccept_link_answers (s := (State.waiting s).setHand (newHand k tag p)) rfl rfl hk hroom hv]
  rfl

/-- A command that names a kit above 4,095 is answered NO KIT (R26). -/
theorem exec_noKit {k : CmdKind} {tag : Byte} {p : List Byte} {s : State} (h : s.ready k tag p = true)
    (hk : k ≠ .enrolBlock) (hrule : ∀ u, ruleOf k tag p u = u.requestRule k tag p) (hp : 4096 ≤ field p 0 2) :
    exec (commandOf k tag p) s = .next (s.answered k tag p .noKit []) := by
  refine exec_answered h hk ?_
  rw [hrule, requestRule_noKit hp]

/-- A command that makes a request of a kit and whose request is granted applies the new record. -/
theorem exec_applied {k : CmdKind} {tag : Byte} {p : List Byte} {s : State} (h : s.ready k tag p = true)
    (hk : k ≠ .enrolBlock) (hrule : ∀ u, ruleOf k tag p u = u.requestRule k tag p) (hc : s.tablesCanonical = true)
    (hp : field p 0 2 ≤ 4095) (hroom : s.roomFor (field p 0 2) = true) {kit : Kit} {st : Status} {content : List Byte}
    (hv : commandVerdict s k p (s.kit (field p 0 2)) = .apply kit st content) :
    ∃ t, exec (commandOf k tag p) s = .next t ∧ s.applied t k tag p (field p 0 2) kit st content := by
  have happlied := tryAccept_link_applies (s := (State.waiting s).setHand (newHand k tag p)) rfl rfl hk hc hroom hv
  refine ⟨_, exec_ready h, ?_⟩
  rw [hrule, requestRule_named hp]
  obtain ⟨honly, hrec, hun, hrecv, awaits, hhand, hawaits⟩ := happlied
  refine ⟨?_, hrec, hun, hrecv, ?_, _, hhand, rfl, rfl, rfl, rfl, rfl, rfl, rfl, hawaits⟩
  · exact honly
  · rw [show _ = _ from honly]; rfl

end Sys2Proof.Proofs
end

section
/-! PROOFS. ENROL, RESTORE and RETIRE, WITHDRAW and RESUME: the records they set (R22, R23, R26 to R28, R31, R33, R48 to R51,
R58, R73). -/

namespace Sys2Proof.Proofs

open Sys2Proof Sys2Proof.Machine Sys2Proof.Laws

/-! ### Fields of a payload's parts -/

theorem field_drop (p : List Byte) (a off width : Nat) : field (p.drop a) off width = field p (a + off) width := by
  rw [field, field, List.drop_drop]

theorem field_take (p : List Byte) {n off width : Nat} (h : off + width ≤ n) : field (p.take n) off width = field p off width := by
  rw [field, field, List.drop_take, List.take_take, Nat.min_eq_left (by omega)]

/-- The fields of a record of an ENROL BLOCK (R176). -/
theorem field_blockArgs (p : List Byte) (i : Nat) {off width : Nat} (h : off + width ≤ 11) :
    field (blockArgs p i) off width = field p (3 + 11 * i + off) width := by
  rw [blockArgs, field_take _ h, field_drop]

/-! ### ENROL, RESTORE and RETIRE (R27, R31, R33) -/

theorem enrolOutOfRange_iff (c : Nat) (b : List Byte) :
    enrolOutOfRange c b = true ↔ 119 < field b 5 1 ∨ c < field b 6 3 := by
  simp [enrolOutOfRange]

theorem enrolOutOfRange_drop (c : Nat) (p : List Byte) :
    enrolOutOfRange c (p.drop 2) = true ↔ 119 < field p 7 1 ∨ c < field p 8 3 := by
  rw [enrolOutOfRange_iff, field_drop, field_drop]

theorem enrolVerdict_free {c : Nat} {b : List Byte} (h : enrolOutOfRange c b = false) :
    enrolVerdict c b .free = .apply (.enrolled (enrolArgs b)) .ok [] := by
  rw [enrolVerdict, if_pos rfl, h]; rfl

theorem enrolVerdict_range {c : Nat} {b : List Byte} (h : enrolOutOfRange c b = true) :
    enrolVerdict c b .free = .answer .range [] := by
  rw [enrolVerdict, if_pos rfl, h]; rfl

theorem enrolVerdict_state {c : Nat} {b : List Byte} {kit : Kit} (h : kit ≠ .free) :
    enrolVerdict c b kit = .answer .kitState (be1 kit.stateCode) := if_neg h

/-- The record a payload describes, its arguments after the kit number (R176). -/
theorem enrolArgs_drop (p : List Byte) : enrolArgs (p.drop 2) =
    enrolledRec (BitVec.ofNat 32 (field p 2 4)) (field p 6 1 != 0) (field p 7 1) (field p 8 3)
      (BitVec.ofNat 16 (field p 11 2)) := by
  simp only [enrolArgs, flagAt, field_drop]

/-- Settles O46: the verdict on the record found, and then the request applied. -/
theorem enrolRestoreAndRetireSetTheRecord : Obligations.EnrolRestoreAndRetireSetTheRecord := by
  refine ⟨fun s c tag p h hc hkit hp hroom hslot hhor => ?_, fun s tag p h hc hp hroom hkit => ?_⟩
  · have hin : enrolOutOfRange s.ceiling (p.drop 2) = false := by
      rw [Bool.eq_false_iff, ne_eq, enrolOutOfRange_drop, not_or]
      exact ⟨Nat.not_lt.2 hslot, Nat.not_lt.2 hhor⟩
    have happly : commandVerdict s c p (s.kit (field p 0 2)) = .apply (.enrolled (enrolArgs (p.drop 2))) .ok [] := by
      obtain ⟨rfl, hk⟩ | ⟨rfl, hk⟩ := hkit
      · rw [hk]; exact enrolVerdict_free hin
      · rw [hk]
        show restoreVerdict s.ceiling (p.drop 2) .damaged = _
        rw [restoreVerdict, if_pos rfl, hin]; rfl
    rw [enrolArgs_drop] at happly
    obtain ⟨rfl, -⟩ | ⟨rfl, -⟩ := hkit <;> exact exec_applied h nofun (fun _ => rfl) hc hp hroom happly
  · exact exec_applied (k := .retire) h nofun (fun _ => rfl) hc hp hroom (if_neg hkit)

/-! ### WITHDRAW and RESUME (R48 to R51) -/

/-- WITHDRAW of an ACTIVE kit holds the hours up to the horizon, and the kit is locked from then on (R48, R49). -/
theorem withdrawnRec_eq (dh : Nat) (notify : Bool) (r : KitRec) : withdrawnRec dh notify r =
    { r with
      horizon := dh
      heldHours := some (min (r.horizon - dh) 17520)
      issue := r.issue + 1
      settled := false
      sends := 0
      unlock := false
      notify := notify } := rfl

/-- RESUME of a HELD kit lays the hours out, and unlocks it if it runs then (R50, R51). -/
theorem resumedRec_eq {r : KitRec} {held : Nat} (h : r.heldHours = some held) (dh c : Nat) (notify : Bool) :
    resumedRec dh c held notify r =
      { r with
        horizon := min (dh + held) c
        heldHours := none
        issue := r.issue + 1
        settled := false
        sends := 0
        unlock := decide (dh < min (dh + held) c)
        notify := notify } := by
  have hold : r.locked dh = true := by simp [KitRec.locked, h]
  have hnew : ({ r with horizon := resumeHorizon dh c held, heldHours := none } : KitRec).locked dh =
      decide (min (dh + held) c ≤ dh) := rfl
  have hunlock : unlockAfter dh r { r with horizon := resumeHorizon dh c held, heldHours := none } =
      decide (dh < min (dh + held) c) := by
    rw [unlockAfter, hnew, hold]
    by_cases hle : min (dh + held) c ≤ dh
    · simp [hle, Nat.not_lt.2 hle]
    · simp [hle, Nat.lt_of_not_le hle]
  rw [resumedRec, changeOrder, hunlock]
  rfl

theorem remaining_eq (dh horizon : Nat) : (if dh < horizon then horizon - dh else 0) = horizon - dh := by
  split <;> omega

/-- Settles O50: the two records written out, and then the request applied. -/
theorem withdrawHoldsAndResumeReturnsTheHours : Obligations.WithdrawHoldsAndResumeReturnsTheHours := by
  refine ⟨fun s tag p r h hc hp hroom hk hheld => ?_, fun s tag p r held h hc hp hroom hk hheld => ?_⟩
  · dsimp only
    rw [remaining_eq, ← withdrawnRec_eq]
    refine exec_applied (k := .withdraw) h nofun (fun _ => rfl) hc hp hroom ?_
    have hactive : (!r.active) = false := by simp [KitRec.active, hheld]
    rw [hk]
    show withdrawVerdict s.clock.dh p (.enrolled r) = _
    rw [withdrawVerdict, hactive]
    rfl
  · dsimp only
    rw [← resumedRec_eq hheld]
    refine exec_applied (k := .resume) h nofun (fun _ => rfl) hc hp hroom ?_
    rw [hk]
    show resumeVerdict s.clock.dh s.settings.advance p (.enrolled r) = _
    simp only [resumeVerdict, hheld]
    rfl

end Sys2Proof.Proofs
end

section
/-! PROOFS. What the commands on a record refuse, ENROL BLOCK, and the reckoning of a command that waited for the dirty queue
(R17, R24, R26, R29 to R33, R37, R41, R42, R46, R48, R50, R131, R146). -/

namespace Sys2Proof.Proofs

open Sys2Proof Sys2Proof.Machine Sys2Proof.Laws

/-! ### Refusals (R26, R27, R31, R33, R42, R46, R48, R50, R131) -/

/-- The commands that make a request of the one kit they name. -/
def requestKinds : List CmdKind := [.enrol, .restore, .retire, .grant, .setHorizon, .withdraw, .resume, .move]

theorem rule_of_request {c : CmdKind} (hc : c ∈ requestKinds) :
    c ≠ .enrolBlock ∧ ∀ tag p u, ruleOf c tag p u = u.requestRule c tag p := by
  simp only [requestKinds, List.mem_cons, List.not_mem_nil, or_false] at hc
  rcases hc with rfl | rfl | rfl | rfl | rfl | rfl | rfl | rfl <;> exact ⟨nofun, fun _ _ _ => rfl⟩

/-- The kit is in a state in which the command can be granted (R26). -/
def servable : CmdKind → Kit → Prop
  | .enrol, .free | .restore, .damaged => True
  | .retire, .damaged | .retire, .enrolled _ | .grant, .enrolled _ | .move, .enrolled _ => True
  | .setHorizon, .enrolled r | .withdraw, .enrolled r => r.heldHours = none
  | .resume, .enrolled r => r.heldHours ≠ none
  | _, _ => False

theorem active_eq_false {r : KitRec} (h : r.heldHours ≠ none) : r.active = false := by
  cases hh : r.heldHours
  · exact absurd hh h
  · simp [KitRec.active, hh]

/-- A command on a kit in another state is refused with the state found (R26, R162). -/
theorem commandVerdict_wrongState {c : CmdKind} (hc : c ∈ requestKinds) (s : State) (p : List Byte) {kit : Kit}
    (h : ¬ servable c kit) : commandVerdict s c p kit = wrongState kit := by
  cases c with
  | enrol =>
    cases kit with
    | free => exact absurd trivial h
    | _ => rfl
  | restore =>
    cases kit with
    | damaged => exact absurd trivial h
    | _ => rfl
  | retire =>
    cases kit with
    | free => rfl
    | _ => exact absurd trivial h
  | grant =>
    cases kit with
    | enrolled r => exact absurd trivial h
    | _ => rfl
  | setHorizon =>
    cases kit with
    | enrolled r => exact if_pos (by rw [active_eq_false h]; rfl)
    | _ => rfl
  | withdraw =>
    cases kit with
    | enrolled r => exact if_pos (by rw [active_eq_false h]; rfl)
    | _ => rfl
  | resume =>
    cases kit with
    | enrolled r =>
      show resumeVerdict s.clock.dh s.settings.advance p (.enrolled r) = _
      have hn : r.heldHours = none := not_not.1 h
      simp only [resumeVerdict, hn]
    | _ => rfl
  | move =>
    cases kit with
    | enrolled r => exact absurd trivial h
    | _ => rfl
  | _ => simp [requestKinds] at hc

theorem enrolVerdict_range_of {s : State} {c : CmdKind} {p : List Byte} {kit : Kit} (hc : c = .enrol ∨ c = .restore)
    (h : servable c kit) (hout : 119 < field p 7 1 ∨ min (s.clock.dh + s.settings.advance) 16777215 < field p 8 3) :
    commandVerdict s c p kit = .answer .range [] := by
  have hout : enrolOutOfRange s.ceiling (p.drop 2) = true := (enrolOutOfRange_drop _ _).2 hout
  obtain rfl | rfl := hc
  · cases kit with
    | free => exact enrolVerdict_range hout
    | _ => exact h.elim
  · cases kit with
    | damaged =>
      show restoreVerdict s.ceiling (p.drop 2) .damaged = _
      rw [restoreVerdict, if_pos rfl, hout]; rfl
    | _ => exact h.elim

theorem grantVerdict_range (dh advance : Nat) {p : List Byte} (h : field p 2 2 = 0 ∨ 8760 < field p 2 2) (r : KitRec) :
    grantVerdict dh advance p (.enrolled r) = .answer .range [] :=
  if_pos (h.imp_left fun h0 => by rw [h0]; exact Nat.zero_lt_one)

/-- What MOVE of an enrolled kit refuses, test by test (R131). -/
theorem moveVerdict_refuses (dh : Nat) (uplink : Bool) (p : List Byte) (r : KitRec) :
    (r.answers = false ∨ uplink = false → moveVerdict dh uplink p (.enrolled r) = .answer .oneWay []) ∧
    (r.answers = true → uplink = true → r.moveIssue ≠ none →
      moveVerdict dh uplink p (.enrolled r) = wrongState (.enrolled r)) ∧
    (r.answers = true → uplink = true → r.moveIssue = none → 119 < field p 2 1 ∨ field p 2 1 = r.listen →
      moveVerdict dh uplink p (.enrolled r) = .answer .range []) := by
  refine ⟨fun h => if_pos ?_, fun ha hu hm => ?_, fun ha hu hm hs => ?_⟩
  · obtain h | h := h <;> simp [h]
  · simp [moveVerdict, ha, hu, Option.isSome_iff_ne_none, hm]
  · simp [moveVerdict, ha, hu, hm, hs]

/-- Settles O54: a refusal is the command's verdict on the record found, and the answer to it changes only the link. -/
theorem refusalsChangeNoRecord : Obligations.RefusalsChangeNoRecord := by
  intro s c tag p h hc
  obtain ⟨hne, hrule⟩ := rule_of_request hc
  have hrule := fun u => hrule tag p u
  refine ⟨exec_noKit h hne hrule, fun hp hroom => ?_⟩
  have refused := fun st content => exec_refused h hne hrule hp hroom (st := st) (content := content)
  refine ⟨fun hin => refused _ _ (commandVerdict_wrongState hc s p hin), fun hin => ⟨fun hk hout => ?_, fun hk hout => ?_,
    fun r hk hkit => ?_⟩⟩
  · exact refused _ _ (enrolVerdict_range_of hk hin hout)
  · subst hk
    refine refused _ _ ?_
    cases hkit : s.kit (field p 0 2) with
    | enrolled r => exact grantVerdict_range _ _ hout r
    | _ => rw [hkit] at hin; exact hin.elim
  · subst hk
    obtain ⟨h1, h2, h3⟩ := moveVerdict_refuses s.clock.dh s.settings.uplink p r
    have hverdict : commandVerdict s .move p (s.kit (field p 0 2)) = moveVerdict s.clock.dh s.settings.uplink p (.enrolled r) := by
      rw [hkit]; rfl
    refine ⟨fun hw => refused _ _ (hverdict.trans (h1 hw)), fun ha hu hm => refused _ _ ?_, fun ha hu hm hs =>
      refused _ _ (hverdict.trans (h3 ha hu hm hs))⟩
    rw [hverdict, h2 ha hu hm, hkit]
    rfl

/-! ### ENROL BLOCK and the reckoning of a command that waits (R29, R30, R41) -/

/-- What an ENROL BLOCK refuses of a record, as its reply says it (R29). -/
theorem enrolVerdict_refuses {c : Nat} {b : List Byte} {kit : Kit} {st : Status} {content : List Byte}
    (h : (kit ≠ .free ∧ st = .kitState ∧ content = be1 kit.stateCode) ∨
      (kit = .free ∧ (119 < field b 5 1 ∨ c < field b 6 3) ∧ st = .range ∧ content = [])) :
    enrolVerdict c b kit = .answer st content := by
  obtain ⟨hk, rfl, rfl⟩ | ⟨rfl, hout, rfl, rfl⟩ := h
  · exact enrolVerdict_state hk
  · exact enrolVerdict_range ((enrolOutOfRange_iff c b).2 hout)

theorem enrolVerdict_enrols {c : Nat} {b : List Byte} (hslot : field b 5 1 ≤ 119) (hhor : field b 6 3 ≤ c) :
    enrolVerdict c b .free = .apply (.enrolled (enrolArgs b)) .ok [] := by
  refine enrolVerdict_free ?_
  rw [Bool.eq_false_iff, ne_eq, enrolOutOfRange_iff, not_or]
  exact ⟨Nat.not_lt.2 hslot, Nat.not_lt.2 hhor⟩

/-- The rule of a taken ENROL BLOCK with a count in its range is the request of its first record (R29). -/
theorem enrolBlockRule_request {p : List Byte} (h1 : 1 ≤ field p 2 1) (h2 : field p 2 1 ≤ 20) (tag : Byte) (s : State) :
    enrolBlockRule tag p s = s.requestRule .enrolBlock tag p := if_neg (by omega)

/-- An ENROL BLOCK that its rule answers at once is answered with none enrolled (R30). -/
theorem exec_block_answered {tag : Byte} {p : List Byte} {s : State} {st : Status} {content : List Byte}
    (h : s.ready .enrolBlock tag p = true)
    (hr : enrolBlockRule tag p (State.waiting s) = (State.waiting s).answerNow .enrolBlock tag p st content) :
    exec (.enrolBlock tag p) s = .next (s.answered .enrolBlock tag p st (content ++ be1 0)) := by
  have he : exec (.enrolBlock tag p) s = .next (enrolBlockRule tag p (State.waiting s)) := exec_ready h
  rw [he, hr, answerNow_waiting]
  rfl

/-- Settles O52: the count, the kit number, and then the verdict on the first record. -/
theorem enrolBlockEnrolsOneKitAtATime : Obligations.EnrolBlockEnrolsOneKitAtATime := by
  intro s tag p h hc k count c
  refine ⟨fun hcount => ?_, fun h1 h2 hk => ?_, fun h1 h2 hk hroom => ?_⟩
  · have hout : count < 1 ∨ 20 < count := by omega
    exact exec_block_answered (content := []) h (if_pos hout)
  · exact exec_block_answered (content := []) h ((enrolBlockRule_request h1 h2 tag _).trans (requestRule_noKit hk ..))
  · have hrule := (enrolBlockRule_request h1 h2 tag (State.waiting s)).trans (requestRule_named hk .enrolBlock tag _)
    have refused : ∀ st content, enrolVerdict c (blockArgs p 0) (s.kit k) = .answer st content →
        exec (.enrolBlock tag p) s = .next (s.answered .enrolBlock tag p st (content ++ be1 0)) := fun st content hv =>
      exec_block_answered h (hrule.trans (tryAccept_block_answers
        (s := (State.waiting s).setHand (newHand .enrolBlock tag p)) rfl rfl rfl hroom rfl rfl hv))
    have hslot : field (blockArgs p 0) 5 1 = field p 8 1 := field_blockArgs p 0 (by omega)
    have hhor : field (blockArgs p 0) 6 3 = field p 9 3 := field_blockArgs p 0 (by omega)
    refine ⟨fun hfree => refused _ _ (enrolVerdict_state hfree), fun hfree hout => refused .range [] ?_,
      fun hfree hs hh => ?_⟩
    · rw [hfree]
      exact enrolVerdict_range ((enrolOutOfRange_iff _ _).2 (by rw [hslot, hhor]; exact hout))
    · have hv : enrolVerdict c (blockArgs p 0) (s.kit k) = .apply (.enrolled (enrolArgs (blockArgs p 0))) .ok [] := by
        rw [hfree]; exact enrolVerdict_enrols (hslot.trans_le hs) (hhor.trans_le hh)
      have hargs : enrolArgs (blockArgs p 0) = enrolledRec (BitVec.ofNat 32 (field p 3 4)) (field p 7 1 != 0) (field p 8 1)
          (field p 9 3) (BitVec.ofNat 16 (field p 12 2)) := by
        simp only [enrolArgs, flagAt, field_blockArgs p 0 (off := 0) (width := 4) (by omega),
          field_blockArgs p 0 (off := 4) (width := 1) (by omega), hslot, hhor,
          field_blockArgs p 0 (off := 9) (width := 2) (by omega)]
      have happlied := tryAccept_block_enrols (s := (State.waiting s).setHand (newHand .enrolBlock tag p)) rfl rfl rfl hc
        hroom hv
      rw [hargs] at happlied
      obtain ⟨honly, hrec, hun, -, awaits, hhand, hawaits⟩ := happlied
      obtain ⟨hkind, htag, hpay, -, hen, haw, hreck, hst⟩ := blockEnrolled_fields (newHand .enrolBlock tag p) rfl
      refine ⟨_, _, (exec_ready (k := .enrolBlock) h).trans (congrArg _ hrule), honly, hrec, hun, hhand, hkind, htag, hpay,
        hen, ?_, ?_, fun hr => ?_⟩
      · rw [hawaits, haw]; rfl
      · refine hreck.trans ⟨Or.imp (fun h => ?_) (fun h => ?_), Or.imp (fun h => ?_) fun h => ?_⟩
        · exact Nat.le_antisymm h h1
        · exact Nat.le_antisymm hk h
        · exact Nat.le_of_eq h
        · exact Nat.le_of_eq h.symm
      · refine (hst hr).2.trans ?_
        have hiff : field p 2 1 ≤ 0 + 1 ↔ count = 1 := ⟨fun h => Nat.le_antisymm h h1, Nat.le_of_eq⟩
        simp only [newHand, hiff]

/-- Settles O53: a command in hand that waits is reckoned as it would have been with room at once, an ENROL BLOCK one record
at a time. -/
theorem commandReckoningAppliesOrAnswers : Obligations.CommandReckoningAppliesOrAnswers := by
  intro s h hlive hh hr hc k c
  have hexec : exec .commandReckoning s = .next (s.tryAccept .link) := by
    show execCommandReckoning s = _
    rw [execCommandReckoning, if_pos hlive]
  rw [hexec]
  refine ⟨fun hk => ⟨fun hacc => ?_, fun hroom => ⟨fun kit st content hv => ?_, fun st content hv => ?_⟩⟩,
    fun hk => ⟨fun hacc => ?_, fun hroom => ⟨fun hfree hs hhor => ?_, fun st content hv => ⟨fun ha hset => ?_, fun ha => ?_⟩⟩⟩⟩
  · rw [tryAccept_link_waits hh (target_of_hand hr hk) hacc]
  · obtain ⟨honly, hrec, hun, hrecv, awaits, hhand, hawaits⟩ := tryAccept_link_applies hh hr hk hc hroom hv
    exact ⟨_, _, rfl, honly, hrec, hun, hrecv, hhand, rfl, rfl, rfl, rfl, rfl, rfl, hawaits⟩
  · rw [tryAccept_link_answers hh hr hk hroom hv, State.answerHand, enrolledTail, if_neg hk, List.append_nil]
    rfl
  · rw [tryAccept_link_waits hh (target_of_block hr hk) hacc]
  · have hv : enrolVerdict s.ceiling (blockArgs h.payload h.enrolled) (s.kit (kitArg h.payload + h.enrolled)) =
        .apply (.enrolled (enrolArgs (blockArgs h.payload h.enrolled))) .ok [] := by
      rw [show s.kit (kitArg h.payload + h.enrolled) = _ from hfree]; exact enrolVerdict_enrols hs hhor
    obtain ⟨honly, hrec, hun, -, awaits, hhand, hawaits⟩ := tryAccept_block_enrols hh hr hk hc hroom hv
    obtain ⟨hkind, htag, hpay, hset, hen, haw, hreck, hst⟩ := blockEnrolled_fields h hr
    exact ⟨_, _, rfl, honly, hrec, hun, hhand, hkind.trans hk, htag, hpay, hset, hen,
      by rw [hawaits, haw, List.map_append]; rfl, hreck, hst⟩
  · rw [tryAccept_block_answers hh hr hk hroom ha hset (enrolVerdict_refuses hv), State.answerHand, enrolledTail, if_pos hk,
      hk]
    rfl
  · rw [tryAccept_block_holds hh hr hk hroom ha (enrolVerdict_refuses hv)]
    rfl

end Sys2Proof.Proofs
end

section
/-! PROOFS. Kit records in the store: the read that sets a record in the load, and the image of a record that loads back
(R35, R36, R74, R154, R183). -/

namespace Sys2Proof.Proofs

open Sys2Proof Sys2Proof.Machine Sys2Proof.Laws

/-! ### The load of a record (R35, R154) -/

theorem live_of_clocked {s : State} (h : s.clocked = true) : s.live = true := by
  simp only [State.clocked, Bool.and_eq_true] at h
  exact h.1

/-- Each event that ends a read of a kit record loads what the read brought. -/
theorem exec_kitRead {s : State} {k : Nat} {c : Instr} {read : Option (List Byte)} (hl : s.clocked = true)
    (hm : s.store.mode = .readingKit k)
    (hc : (c = .kitRecordRead .inError ∧ read = none) ∨ (∃ left, c = .storeMemoryTimeout left ∧ read = none) ∨
      (c = .kitRecordRead .asStored ∧ read = some (readRun s.store.cells (64 + 19 * k) 19)) ∨
      (∃ bs, c = .kitRecordRead (.bytes bs) ∧ bs.length = 19 ∧ read = some bs)) :
    exec c s = .next (s.loadKit k read) := by
  have hread : ∀ r, exec (.kitRecordRead r) s = .next (s.loadKit k (s.portRead (.kit k) r)) := fun r => by
    show execKitRecordRead r s = _
    simp only [execKitRecordRead, hm, live_of_clocked hl, if_true]
  obtain ⟨rfl, rfl⟩ | ⟨left, rfl, rfl⟩ | ⟨rfl, rfl⟩ | ⟨bs, rfl, hlen, rfl⟩ := hc
  · exact hread .inError
  · show execStoreMemoryTimeout left s = _
    simp only [execStoreMemoryTimeout, hl, if_true, State.memoryTimeout, hm]
  · exact hread .asStored
  · rw [hread, State.portRead, fitTo_of_length (n := (targetPlace (.kit k)).2) hlen]

theorem all_eq_iff (b : List Byte) (v : Byte) : b.all (· == v) = true ↔ ∀ x ∈ b, x = v := by simp

/-- What the bytes read for a record make of it, test by test (R35). -/
theorem loadedKit_cases (k : Nat) (b : List Byte) :
    ((∀ x ∈ b, x = 0x00) ∨ (∀ x ∈ b, x = 0xFF) → loadedKit k b = .free) ∧
    (¬ ((∀ x ∈ b, x = 0x00) ∨ (∀ x ∈ b, x = 0xFF)) → crcBytes (be2 k ++ b.take 17) ≠ b.drop 17 → loadedKit k b = .damaged) ∧
    (¬ ((∀ x ∈ b, x = 0x00) ∨ (∀ x ∈ b, x = 0xFF)) → crcBytes (be2 k ++ b.take 17) = b.drop 17 →
      loadedKit k b = if storedValid b then .enrolled (loadedRec b) else .damaged) := by
  simp only [← all_eq_iff, ← Bool.or_eq_true]
  refine ⟨fun h => if_pos h, fun h hcrc => ?_, fun h hcrc => ?_⟩ <;> rw [loadedKit, if_neg h]
  · exact if_pos (bne_iff_ne.2 hcrc)
  · exact if_neg (by simp [hcrc])

/-- What the read of a record leaves, its record in its place and its notice posted. -/
theorem kitRead_kept (k : Nat) (read : Option (List Byte)) {s : State} (hc : s.tablesCanonical = true) :
    s.recordIs (State.kitRead k read s) k (kitOfRead k read) ∧ (State.kitRead k read s).store = s.store ∧
      (State.kitRead k read s).settings = s.settings ∧ (State.kitRead k read s).clock = s.clock ∧
      (State.kitRead k read s).link.op = s.link.op ∧
      (kitOfRead k read = .damaged → (State.kitRead k read s).link.notices = (s.link.posted
        { kind := .damaged, dh := s.clock.dh, cycle := s.clock.cycle, kit := some k }).notices) ∧
      (kitOfRead k read ≠ .damaged → (State.kitRead k read s).link.notices = s.link.notices) := by
  have hput := recordIs_putKit hc k (kitOfRead k read)
  unfold State.kitRead
  split
  · rename_i hd
    exact ⟨hput, rfl, rfl, rfl, post_link_op _ _ _, fun _ => rfl, fun h => absurd hd h⟩
  · rename_i hd
    exact ⟨hput, rfl, rfl, rfl, rfl, fun h => absurd h hd, fun _ => rfl⟩

/-- Settles O31: the read puts its record in its place, and the load goes on to the next record or ends. -/
theorem kitRecordReadSetsTheRecord : Obligations.KitRecordReadSetsTheRecord := by
  intro s k c read hl hm hc hread
  obtain ⟨hrec, hstore, hset, hclock, hop, hdam, hnot⟩ := kitRead_kept k read hc
  have hkit : (read = none → kitOfRead k read = .damaged) ∧ ∀ b, read = some b →
      ((∀ x ∈ b, x = 0x00) ∨ (∀ x ∈ b, x = 0xFF) → kitOfRead k read = .free) ∧
      (¬ ((∀ x ∈ b, x = 0x00) ∨ (∀ x ∈ b, x = 0xFF)) → crcBytes (be2 k ++ b.take 17) ≠ b.drop 17 →
        kitOfRead k read = .damaged) ∧
      (¬ ((∀ x ∈ b, x = 0x00) ∨ (∀ x ∈ b, x = 0xFF)) → crcBytes (be2 k ++ b.take 17) = b.drop 17 →
        kitOfRead k read = if storedValid b then .enrolled (loadedRec b) else .damaged) := by
    refine ⟨?_, ?_⟩
    · rintro rfl; rfl
    · rintro b rfl; exact loadedKit_cases k b
  have hcells : (State.kitRead k read s).store.cells = s.store.cells := by rw [hstore]
  have hqueue : (State.kitRead k read s).store.queue = s.store.queue := by rw [hstore]
  refine ⟨_, kitOfRead k read, exec_kitRead hl hm hread, ?_⟩
  rw [loadKit_eq]
  split
  · rename_i hlast
    have hlast : 4095 ≤ k := Nat.le_of_succ_le_succ hlast
    exact ⟨hrec, hkit.1, hkit.2, hcells, hqueue, hset, hclock,
      fun hk => absurd hlast (Nat.not_le.2 hk), fun _ => ⟨rfl, rfl⟩, hdam, hnot⟩
  · rename_i hnext
    have hnext : ¬ 4095 ≤ k := fun h => hnext (Nat.succ_le_succ h)
    exact ⟨hrec, hkit.1, hkit.2, hcells, hqueue, hset, hclock,
      fun _ => ⟨rfl, hop⟩, fun h => absurd h hnext, hdam, hnot⟩

/-! ### Numbers as bytes and back -/

theorem beNat_be1 (n : Nat) : beNat (be1 n) = n % 256 := by
  simp [beNat, be1]

theorem beNat_be2 (n : Nat) : beNat (be2 n) = n % 65536 := by
  simp only [beNat, be2, List.foldl_cons, List.foldl_nil, BitVec.toNat_ofNat]
  omega

theorem beNat_be3 (n : Nat) : beNat (be3 n) = n % 16777216 := by
  simp only [beNat, be3, List.foldl_cons, List.foldl_nil, BitVec.toNat_ofNat]
  omega

theorem beNat_be4 (n : Nat) : beNat (be4 n) = n % 4294967296 := by
  simp only [beNat, be4, List.foldl_cons, List.foldl_nil, BitVec.toNat_ofNat]
  omega

/-! ### The image of a record (R183) -/

/-- Byte 0 of a stored record: the state and the three flags. -/
def KitRec.firstByte (r : KitRec) : Nat :=
  (if r.heldHours.isSome then 2 else 1) + 16 * r.answers.toNat + 32 * r.moveIssue.isSome.toNat +
    64 * r.heldHours.isSome.toNat

/-- What byte 0 says of the record. -/
theorem firstByte_bits (r : KitRec) :
    1 ≤ KitRec.firstByte r ∧ KitRec.firstByte r < 128 ∧
      KitRec.firstByte r % 4 = (if r.heldHours.isSome then 2 else 1) ∧
      bitAt (KitRec.firstByte r) 4 = r.answers ∧ bitAt (KitRec.firstByte r) 5 = r.moveIssue.isSome ∧
      bitAt (KitRec.firstByte r) 6 = r.heldHours.isSome := by
  unfold KitRec.firstByte
  generalize r.heldHours.isSome = held
  generalize r.moveIssue.isSome = moving
  generalize r.answers = answers
  revert held moving answers
  decide

/-- The fields of a stored record, each where R183 puts it. -/
structure StoredFields (b : List Byte) (r : KitRec) : Prop where
  first   : field b 0 1 = KitRec.firstByte r
  code    : field b 1 4 = r.code.toNat
  listen  : field b 5 1 = r.listen
  ordered : field b 6 1 = r.ordered
  move    : field b 7 2 = (r.moveIssue.map BitVec.toNat).getD 0
  horizon : field b 9 3 = r.horizon
  held    : field b 12 2 = r.heldHours.getD 0
  issue   : field b 14 2 = r.issue.toNat
  mark    : field b 16 1 = r.mark

theorem storedFields_image {r : KitRec} (h : RecSound r) (check : List Byte) : StoredFields (r.body ++ check) r := by
  have hfirst := (firstByte_bits r).2.1
  have hl := h.listen
  have ho := h.ordered
  have hz := h.horizon
  have hh := h.heldHours
  have hk := h.mark
  have hmove : (r.moveIssue.map BitVec.toNat).getD 0 < 65536 := by
    cases r.moveIssue with
    | none => exact Nat.zero_lt_succ _
    | some i => exact i.isLt
  exact {
    first := (beNat_be1 (KitRec.firstByte r)).trans (Nat.mod_eq_of_lt (by omega))
    code := (beNat_be4 r.code.toNat).trans (Nat.mod_eq_of_lt r.code.isLt)
    listen := (beNat_be1 r.listen).trans (Nat.mod_eq_of_lt (by omega))
    ordered := (beNat_be1 r.ordered).trans (Nat.mod_eq_of_lt (by omega))
    move := (beNat_be2 _).trans (Nat.mod_eq_of_lt hmove)
    horizon := (beNat_be3 r.horizon).trans (Nat.mod_eq_of_lt (by simp only [maxHour] at hz; omega))
    held := (beNat_be2 _).trans (Nat.mod_eq_of_lt (by simp only [maxHeldHours] at hh; omega))
    issue := (beNat_be2 r.issue.toNat).trans (Nat.mod_eq_of_lt r.issue.isLt)
    mark := (beNat_be1 r.mark).trans (Nat.mod_eq_of_lt (by omega)) }

/-- The record a load makes: every persisted field as it was, every volatile one at its value after a load (R36). -/
def KitRec.reloaded (r : KitRec) : KitRec :=
  { r with
    confirmed := none
    settled := false
    sends := 0
    unlock := false
    notify := false
    moveSent := r.moveIssue.isSome
    lastSent := none
    lastHeard := none
    missed := 0
    silentReported := false
    tamper := 0
    lastStatus := none }

theorem loadedRec_of_fields {b : List Byte} {r : KitRec} (h : StoredFields b r) : loadedRec b = KitRec.reloaded r := by
  obtain ⟨-, -, -, hanswers, hmoving, hheld⟩ := firstByte_bits r
  have hmove : (if r.moveIssue.isSome then some (BitVec.ofNat 16 ((r.moveIssue.map BitVec.toNat).getD 0)) else none) =
      r.moveIssue := by
    cases r.moveIssue <;> simp
  have hhours : (if r.heldHours.isSome then some (r.heldHours.getD 0) else none) = r.heldHours := by
    cases r.heldHours <;> rfl
  simp only [loadedRec, KitRec.reloaded, h.first, h.code, h.listen, h.ordered, h.move, h.horizon, h.held, h.issue, h.mark,
    hanswers, hmoving, hheld, hmove, hhours, BitVec.ofNat_toNat, BitVec.setWidth_eq]

theorem storedValid_of_fields {b : List Byte} {r : KitRec} (h : StoredFields b r) (hr : RecSound r) :
    storedValid b = true := by
  obtain ⟨-, -, hstate, -⟩ := firstByte_bits r
  have hl := hr.listen
  have ho := hr.ordered
  have hh := hr.heldHours
  simp only [storedValid, loadedRec_of_fields h, KitRec.reloaded, h.first, hstate, Bool.and_eq_true, decide_eq_true_eq,
    beq_iff_eq, hl, ho, hh, hr.moveIssue, and_true]
  cases r.heldHours.isSome <;> decide

/-- A stored record's first byte is neither of the two a FREE record may have throughout. -/
theorem image_not_free (r : KitRec) (check : List Byte) :
    ¬ ((∀ x ∈ r.body ++ check, x = 0x00) ∨ (∀ x ∈ r.body ++ check, x = 0xFF)) := by
  obtain ⟨hpos, hlt, -⟩ := firstByte_bits r
  have hmem : BitVec.ofNat 8 (KitRec.firstByte r) ∈ r.body ++ check := List.mem_cons_self
  have hval : (BitVec.ofNat 8 (KitRec.firstByte r)).toNat = KitRec.firstByte r :=
    (BitVec.toNat_ofNat _ _).trans (Nat.mod_eq_of_lt (by omega))
  rintro (h | h)
  · have h0 := congrArg BitVec.toNat (h _ hmem)
    rw [hval] at h0
    exact absurd h0 (by simp; omega)
  · have hF := congrArg BitVec.toNat (h _ hmem)
    rw [hval] at hF
    exact absurd hF (by simp; omega)

/-- Settles O32: the bytes hold the fields, so the check, the contents and the fields read back. -/
theorem recordImageLoadsBack : Obligations.RecordImageLoadsBack := by
  refine fun k _ => ⟨rfl, fun r hr => ⟨rfl, ?_⟩⟩
  have hsound := valid_iff.1 hr
  have hfields := storedFields_image hsound (crcBytes (be2 k ++ r.body))
  obtain ⟨-, -, hgood⟩ := loadedKit_cases k (recordImage k (.enrolled r))
  rw [hgood (image_not_free r _) rfl]
  show (if storedValid (r.body ++ crcBytes (be2 k ++ r.body)) then
    Kit.enrolled (loadedRec (r.body ++ crcBytes (be2 k ++ r.body))) else .damaged) = .enrolled (KitRec.reloaded r)
  rw [storedValid_of_fields hfields hsound, loadedRec_of_fields hfields]
  rfl

end Sys2Proof.Proofs
end

section
/-! PROOFS. The durable reply: what a verified write answers, and that nothing else of it moves while the next write starts
(R28, R30, R148, R150, R152). -/

namespace Sys2Proof.Proofs

open Sys2Proof Sys2Proof.Machine Sys2Proof.Laws

/-! ### Acts that leave the command in hand and the replies -/

/-- The command in hand, the reply list and the copy are as they were. -/
structure RepliesKept (s t : State) : Prop where
  hand    : t.link.hand = s.link.hand
  replies : t.link.replies = s.link.replies
  copy    : t.link.copy = s.link.copy

theorem RepliesKept.refl (s : State) : RepliesKept s s := ⟨rfl, rfl, rfl⟩

theorem RepliesKept.trans {s t u : State} (h : RepliesKept s t) (h' : RepliesKept t u) : RepliesKept s u :=
  ⟨h'.hand.trans h.hand, h'.replies.trans h.replies, h'.copy.trans h.copy⟩

theorem AirAct.copy {s t : State} (h : AirAct s t) : t.link.copy = s.link.copy := by
  cases h with
  | post n k => exact post_link_copy s n k
  | _ => rfl

theorem repliesKept_airActs {s t : State} (h : AirActs s t) : RepliesKept s t := by
  refine ⟨h.kept.hand, h.kept.replies, ?_⟩
  induction h with
  | refl => rfl
  | tail _ ha ih => exact ha.copy.trans ih

theorem repliesKept_post (s : State) (n : NoticeKind) (k : Option Nat) : RepliesKept s (s.post n k) :=
  ⟨post_link_hand s n k, post_link_replies s n k, post_link_copy s n k⟩

theorem repliesKept_applyRecord (s : State) (k : Nat) (kit : Kit) : RepliesKept s (s.applyRecord k kit) := ⟨rfl, rfl, rfl⟩

theorem repliesKept_onStore (f : Store → Store) (s : State) : RepliesKept s (s.onStore f) := ⟨rfl, rfl, rfl⟩

theorem repliesKept_finishFrame (s : State) : RepliesKept s s.finishFrame :=
  (⟨rfl, rfl, rfl⟩ : RepliesKept s (State.frameDropped s)).trans (repliesKept_airActs (airActs_finishFrame s))

theorem repliesKept_endWalk (s : State) (w : Walk) (aborted : Bool) : RepliesKept s (s.endWalk w aborted) :=
  (⟨rfl, rfl, rfl⟩ : RepliesKept s (s.setWalk none)).trans (repliesKept_post _ _ _)

theorem repliesKept_finishIndex (s : State) (w : Walk) (changed : Bool) : RepliesKept s (s.finishIndex w changed) := by
  rcases finishIndex_cases s w changed with ⟨-, h⟩ | ⟨-, -, h⟩ | ⟨-, -, h⟩ <;> rw [h]
  · exact repliesKept_endWalk ..
  · exact repliesKept_endWalk ..
  · exact ⟨rfl, rfl, rfl⟩

theorem repliesKept_reckonWalker (s : State) : RepliesKept s s.reckonWalker := by
  unfold State.reckonWalker
  split
  · exact .refl s
  · split
    · split
      · split
        · exact (repliesKept_applyRecord s _ _).trans (repliesKept_finishIndex _ _ _)
        · exact repliesKept_finishIndex ..
      · exact repliesKept_finishIndex ..
    · exact .refl s

theorem repliesKept_reckonRequest (q : HandlerReq) (s : State) : RepliesKept s (State.reckonRequest q s) := by
  cases q with
  | completeMove k =>
    show RepliesKept s (s.reckonMove k)
    unfold State.reckonMove
    split
    · split
      · exact (repliesKept_applyRecord s _ _).trans (repliesKept_post _ _ _)
      · exact .refl s
    · exact .refl s
  | tamperHold k =>
    show RepliesKept s (s.reckonTamper k)
    unfold State.reckonTamper
    split
    · split
      · exact (repliesKept_applyRecord s _ _).trans (repliesKept_post _ _ _)
      · exact .refl s
    · exact .refl s

theorem repliesKept_reckonHandler (s : State) : RepliesKept s s.reckonHandler := by
  cases hq : s.handler with
  | idle => simp only [State.reckonHandler, hq]; exact .refl s
  | stalled q second =>
    have hreq := repliesKept_reckonRequest q s
    rw [reckonHandler_stalled hq]
    cases second with
    | some q' => exact hreq.trans ⟨rfl, rfl, rfl⟩
    | none => exact hreq.trans (repliesKept_finishFrame _)

/-! ### Room given out while the command in hand waits for its writes only -/

/-- No command is in hand that is still to be reckoned. -/
def State.handAtRest (s : State) : Prop := ∀ h, s.link.hand = some h → h.reckoned = true

theorem RepliesKept.handAtRest {s t : State} (h : RepliesKept s t) (hs : State.handAtRest s) : State.handAtRest t :=
  fun c hc => hs c (h.hand ▸ hc)

theorem reckonLink_atRest {s : State} (hs : State.handAtRest s) : s.reckonLink = s := by
  cases hh : s.link.hand with
  | none => simp only [State.reckonLink, hh]
  | some h => simp only [State.reckonLink, hh, hs h hh, if_true]

theorem repliesKept_serve {s : State} (hs : State.handAtRest s) (r : Requester) : RepliesKept s (s.serve r) := by
  cases r with
  | link => rw [State.serve, reckonLink_atRest hs]; exact .refl s
  | walker => exact repliesKept_reckonWalker s
  | handler => exact repliesKept_reckonHandler s

theorem repliesKept_serveIfFor (k : Nat) {s : State} (hs : State.handAtRest s) (r : Requester) :
    RepliesKept s (s.serveIfFor k r) := by
  unfold State.serveIfFor
  split
  · exact repliesKept_serve hs r
  · exact .refl s

theorem repliesKept_serveAccepted {s : State} (hs : State.handAtRest s) (r : Requester) :
    RepliesKept s (s.serveAccepted r) := by
  have h1 := repliesKept_serve hs r
  unfold State.serveAccepted
  split
  · exact .refl s
  · rename_i k _
    dsimp only
    split
    · have h2 := h1.trans (repliesKept_serveIfFor k (h1.handAtRest hs) r.next)
      exact h2.trans (repliesKept_serveIfFor k (h2.handAtRest hs) r.next.next)
    · exact h1

theorem repliesKept_giveRoom (n : Nat) {s : State} (hs : State.handAtRest s) : RepliesKept s (s.giveRoom n) := by
  induction n generalizing s with
  | zero => exact .refl s
  | succ n ih =>
    unfold State.giveRoom
    split
    · split
      · rename_i r _
        have h1 := (repliesKept_serveAccepted hs r).trans
          (repliesKept_onStore (fun c => { c with rotation := r.next }) _)
        exact h1.trans (ih (h1.handAtRest hs))
      · exact .refl s
    · exact .refl s

theorem handAtRest_headTaken {s : State} (hs : State.handAtRest s) (k : Nat) (rest : List Nat) :
    State.handAtRest (State.headTaken k rest s) := by
  intro c hc
  obtain ⟨h, hh, rfl⟩ := Option.map_eq_some_iff.1 (show s.link.hand.map (markStarted k) = some c from hc)
  exact hs h hh

/-- The start of a write sends no reply; of a command in hand that is reckoned it marks only the writes that start. -/
theorem startNextWrite_replies {s : State} (hs : State.handAtRest s) :
    s.startNextWrite.link.replies = s.link.replies ∧ s.startNextWrite.link.copy = s.link.copy ∧
      (s.link.hand = none → s.startNextWrite.link.hand = none) ∧
      ∀ h, s.link.hand = some h → ∃ awaits, s.startNextWrite.link.hand = some { h with awaits := awaits } := by
  rcases startNextWrite_cases s with ⟨he, -⟩ | ⟨-, -, he⟩ | ⟨k, rest, -, -, -, he⟩ <;> rw [he]
  · exact ⟨rfl, rfl, id, fun h hh => ⟨h.awaits, hh⟩⟩
  · exact ⟨rfl, rfl, id, fun h hh => ⟨h.awaits, hh⟩⟩
  · have hkept : RepliesKept (State.headTaken k rest s) (s.startRecordWrite k rest) := by
      unfold State.startRecordWrite
      dsimp only
      split
      · exact (repliesKept_giveRoom 4 (handAtRest_headTaken hs k rest)).trans ⟨rfl, rfl, rfl⟩
      · exact ⟨rfl, rfl, rfl⟩
    refine ⟨hkept.replies, hkept.copy, fun hn => ?_, fun h hh => ⟨(markStarted k h).awaits, ?_⟩⟩
    · exact hkept.hand.trans (congrArg (Option.map (markStarted k)) hn)
    · exact hkept.hand.trans (congrArg (Option.map (markStarted k)) hh)

/-- The start of a write does not say whether a settings write is owed: only its verifying does (R152). -/
theorem owed_startNextWrite (s : State) : s.startNextWrite.store.owed = s.store.owed := by
  rcases startNextWrite_cases s with ⟨h, -⟩ | ⟨-, -, h⟩ | ⟨k, rest, -, -, -, h⟩ <;> rw [h]
  · rfl
  · obtain ⟨u, hacts, hu⟩ := startRecordWrite_acts k rest s
    rw [hu]
    exact hacts.kept.owed

/-! ### The end of a write (R148, R150) -/

/-- A write that is read back as its image is verified. -/
theorem exec_record_verified {s : State} {k : Nat} {image : List Byte} {n : Nat} (hl : s.live = true)
    (hm : s.store.mode = .writing k image n) (hi : image.length = 19) :
    exec (.storeAttemptComplete .good) s = .next ((s.memoryHolds (.kit k) image).recordVerified k) := by
  show execStoreAttemptComplete .good s = _
  simp only [execStoreAttemptComplete, hl, if_true, State.attemptReadBack, State.writeImage, hm, State.recordReadBack,
    fitTo_of_length hi]

theorem exec_settings_verified {s : State} {image : List Byte} {n : Nat} (hl : s.live = true)
    (hm : s.store.mode = .saving image n) (hi : image.length = 64) :
    exec (.storeAttemptComplete .good) s = .next (s.memoryHolds .settings image).settingsVerified := by
  show execStoreAttemptComplete .good s = _
  simp only [execStoreAttemptComplete, hl, if_true, State.attemptReadBack, State.writeImage, hm, State.settingsReadBack,
    fitTo_of_length hi]

/-- A reckoned command that waits for no write is answered. -/
theorem settleHand_answers {s : State} {h : Hand} (hh : s.link.hand = some h) (hr : h.reckoned = true)
    (ha : h.awaits = []) (hs : h.settings = false) : s.settleHand = s.answerHand h h.status h.content := by
  simp only [State.settleHand, hh, hr, ha, hs]
  rfl

/-- A command that waits for a write is not. -/
theorem settleHand_waits {s : State} {h : Hand} (hh : s.link.hand = some h) (ha : h.awaits ≠ []) : s.settleHand = s := by
  have he : h.awaits.isEmpty = false := by simpa using ha
  simp [State.settleHand, hh, he]

/-- After an answer no command is in hand. -/
theorem handAtRest_answerHand (s : State) (h : Hand) (st : Status) (content : List Byte) :
    State.handAtRest (s.answerHand h st content) := nofun

/-- The settings block's bytes after it was written, and every other byte (R152). -/
theorem memory_settingsVerified (s : State) {image : List Byte} (hi : image.length = 64) :
    readRun (s.memoryHolds .settings image).settingsVerified.store.cells 0 64 = image ∧
      s.memoryKeptBut (s.memoryHolds .settings image).settingsVerified 0 64 := by
  have hcells : (s.memoryHolds .settings image).settingsVerified.store.cells = (s.memoryHolds .settings image).store.cells :=
    ((kept_settleHand _).trans (kept_startNextWrite _)).cells
  refine ⟨?_, fun x hx => ?_⟩
  · rw [hcells]
    show readRun (writeRun 0 (fitTo 64 image) s.store.cells) 0 64 = image
    rw [fitTo_of_length hi, ← hi]
    exact readRun_writeRun _ _ _
  · rw [hcells]
    exact memoryKeptBut_memoryHolds s .settings image x hx

/-- Settles O29: the verified write ends one wait of the command in hand, and the last one answers it. -/
theorem durableReplyFollowsTheVerifiedWrite : Obligations.DurableReplyFollowsTheVerifiedWrite := by
  refine ⟨fun s k image n h hl hm hi hh hr hs => ⟨_, exec_record_verified hl hm hi, fun hall => ?_, fun hsome => ?_⟩,
    fun s image n h hl hm hi hh hr hs ha hk => ⟨_, exec_settings_verified hl hm hi, ?_⟩⟩
  · rw [recordVerified_eq]
    have hwait : h.awaits.filter (fun a => a != (k, true)) = [] := List.filter_eq_nil_iff.2 fun a ha => by simp [hall a ha]
    have hhand : (State.writeVerified k (s.memoryHolds (.kit k) image)).link.hand =
        some { h with awaits := h.awaits.filter fun a => a != (k, true) } := congrArg (Option.map _) hh
    rw [settleHand_answers hhand hr hwait hs]
    obtain ⟨hreplies, hcopy, hnone, -⟩ := startNextWrite_replies (handAtRest_answerHand
      (State.writeVerified k (s.memoryHolds (.kit k) image)) { h with awaits := h.awaits.filter fun a => a != (k, true) }
      h.status h.content)
    exact ⟨hnone rfl, hreplies, hcopy⟩
  · rw [recordVerified_eq]
    have hwait : h.awaits.filter (fun a => a != (k, true)) ≠ [] := by
      obtain ⟨a, ha, hne⟩ := hsome
      exact List.ne_nil_of_mem (List.mem_filter.2 ⟨ha, bne_iff_ne.2 hne⟩)
    have hhand : (State.writeVerified k (s.memoryHolds (.kit k) image)).link.hand =
        some { h with awaits := h.awaits.filter fun a => a != (k, true) } := congrArg (Option.map _) hh
    rw [settleHand_waits hhand hwait]
    obtain ⟨hreplies, hcopy, -, hstill⟩ := startNextWrite_replies (s := State.writeVerified k (s.memoryHolds (.kit k) image))
      fun c hc => by rw [hhand] at hc; cases hc; exact hr
    obtain ⟨awaits, ht⟩ := hstill _ hhand
    exact ⟨hreplies, hcopy, _, ht, rfl, rfl, rfl, rfl, rfl⟩
  · obtain ⟨hread, hkept⟩ := memory_settingsVerified s hi
    have hhand : (State.saveVerified (s.memoryHolds .settings image)).link.hand = some { h with settings := false } :=
      congrArg (Option.map _) hh
    have hanswer := settleHand_answers hhand hr ha rfl
    refine ⟨?_, hread, hkept, ?_⟩ <;> rw [settingsVerified_eq, hanswer]
    · exact (owed_startNextWrite _).trans rfl
    · obtain ⟨hreplies, -, hnone, -⟩ := startNextWrite_replies (handAtRest_answerHand
        (State.saveVerified (s.memoryHolds .settings image)) { h with settings := false } h.status h.content)
      refine ⟨hnone rfl, hreplies.trans ?_⟩
      show s.link.replies ++ [_] = _
      rw [enrolledTail, if_neg hk, List.append_nil]
      rfl

end Sys2Proof.Proofs
end

section
/-! PROOFS. GRACE_RECKONING: the record graced, the index finished, and the write that starts after it (R43, R52, R63, R66). -/

namespace Sys2Proof.Proofs

open Sys2Proof Sys2Proof.Machine Sys2Proof.Laws

/-! ### The next write when no request takes the room (R146, R147) -/

/-- A write may have started: besides the store, only the marks of the command in hand moved, and what was unsaved is. -/
structure NextStarted (s t : State) : Prop where
  fields  : ∃ queue mode hand, t =
    { s with store := { s.store with queue := queue, mode := mode }, link := { s.link with hand := hand } }
  unsaved : ∀ k, s.unsaved k = true → t.unsaved k = true

theorem wants_headTaken (k : Nat) (rest : List Nat) (s : State) (r : Requester) :
    (State.headTaken k rest s).wants r = s.wants r := by
  cases r with
  | link =>
    show (s.link.hand.map (markStarted k)).bind Hand.target = s.link.hand.bind Hand.target
    cases s.link.hand <;> rfl
  | walker => rfl
  | handler => rfl

/-- Room is offered and nobody takes it. -/
theorem giveRoom_unwaited {s : State} (h : ∀ r, s.wants r = none) (n : Nat) : s.giveRoom n = s := by
  cases n with
  | zero => rfl
  | succ n =>
    have hnone : s.firstWaiting = none := by simp [State.firstWaiting, h]
    rw [State.giveRoom, hnone, ite_self]

theorem startRecordWrite_quiet {s : State} (h : (∀ r, s.wants r = none) ∨ s.store.queue.length < queueCapacity) (k : Nat)
    (rest : List Nat) : s.startRecordWrite k rest =
      (State.headTaken k rest s).onStore fun c => { c with mode := .writing k (recordImage k (s.kit k)) 1 } := by
  have hroom : (if decide (queueCapacity ≤ s.store.queue.length) then (State.headTaken k rest s).giveRoom 4
      else State.headTaken k rest s) = State.headTaken k rest s := by
    obtain h | h := h
    · rw [giveRoom_unwaited fun r => (wants_headTaken k rest s r).trans (h r), ite_self]
    · rw [if_neg (by simpa using h)]
  exact congrArg (fun t : State => t.onStore fun c => { c with mode := .writing k (recordImage k (t.kit k)) 1 }) hroom

/-- With nobody waiting, or room before the write, its start lets no request in. -/
theorem nextStarted_startNextWrite {s : State}
    (h : (∀ r, s.wants r = none) ∨ s.store.queue.length < queueCapacity) : NextStarted s s.startNextWrite := by
  obtain ⟨he, -⟩ | ⟨hm, -, he⟩ | ⟨k, rest, hm, -, hq, he⟩ := startNextWrite_cases s <;> rw [he]
  · exact ⟨⟨_, _, _, rfl⟩, fun _ hk => hk⟩
  · refine ⟨⟨_, _, _, rfl⟩, fun k hk => ?_⟩
    have hmem : k ∈ s.store.queue := by simpa [State.unsaved, hm] using hk
    exact unsaved_of_mem hmem
  · rw [startRecordWrite_quiet h]
    refine ⟨⟨_, _, _, rfl⟩, fun j hj => ?_⟩
    have hmem : j ∈ s.store.queue := by simpa [State.unsaved, hm] using hj
    rw [hq] at hmem
    obtain rfl | hmem := List.mem_cons.1 hmem
    · exact unsaved_of_writing rfl
    · exact unsaved_of_mem (s := State.onStore _ (State.headTaken k rest s)) hmem

/-! ### A record graced (R43, R52, R63) -/

/-- The hours a grant to an ACTIVE kit lays out past the larger of its horizon and the district hour (R43). -/
theorem grantAccepted_eq (dh c old h : Nat) : grantAccepted dh c old h = min (max old dh + h) c - max old dh := by
  simp only [grantAccepted, grantHorizon, grantBase]
  split <;> omega

/-- A grace that gives no hours marks the record, and that is all (R52). -/
theorem gracedRec_marked {dh c hours : Nat} {r : KitRec} (number : Nat)
    (h : min (max r.horizon dh + hours) c - max r.horizon dh = 0) :
    gracedRec dh c hours number r = ({ r with mark := number }, false) :=
  if_pos ((grantAccepted_eq ..).trans h)

/-- A grace that gives hours is a grant without notify, and the mark with it (R43, R52). -/
theorem gracedRec_granted {dh c hours : Nat} {r : KitRec} (number : Nat) (hr : r.heldHours = none)
    (h : 0 < min (max r.horizon dh + hours) c - max r.horizon dh) :
    gracedRec dh c hours number r = ({ r with
      horizon := max r.horizon dh + (min (max r.horizon dh + hours) c - max r.horizon dh)
      issue := r.issue + 1
      mark := number
      settled := false
      sends := 0
      unlock := if r.horizon ≤ dh then true else r.unlock
      notify := false }, true) := by
  have hhorizon : grantHorizon dh c r.horizon hours =
      max r.horizon dh + (min (max r.horizon dh + hours) c - max r.horizon dh) := by
    simp only [grantHorizon, grantBase]
    split <;> omega
  have hrun : ¬ grantHorizon dh c r.horizon hours ≤ dh := by omega
  have hunlock : unlockAfter dh r { r with horizon := grantHorizon dh c r.horizon hours } =
      if r.horizon ≤ dh then true else r.unlock := by
    simp [unlockAfter, KitRec.locked, hr, hrun]
  rw [gracedRec, if_neg (by rw [grantAccepted_eq]; omega), grantedRec, changeOrder, hunlock, hhorizon]

/-- The tests of R62, on an enrolled kit. -/
theorem qualifies_iff (dh number scope : Nat) (r : KitRec) : qualifies dh number scope (.enrolled r) = true ↔
    r.heldHours = none ∧ r.mark ≠ number ∧ (scope = 0 ∨ (dh - scope ≤ r.horizon ∧ r.horizon ≤ dh)) := by
  simp [qualifies, KitRec.active, inScope, and_assoc]

/-! ### The index finished (R61, R66, R67) -/

/-- The part after a record of the walk: the walk ended with its GRACE DONE, or it goes on at the next index. -/
def State.indexFinished (w : Walk) (changed : Nat) (s : State) : State :=
  if w.abort = true ∨ 4095 ≤ w.next then { s with
    walk := none
    link := s.link.posted { kind := .graceDone w.number changed (w.next + 1) w.abort, dh := s.clock.dh
                            cycle := s.clock.cycle, kit := none } }
  else { s with walk := some { w with next := w.next + 1, inHand := false, changed := changed } }

theorem finishIndex_eq (s : State) (w : Walk) (changed : Bool) :
    s.finishIndex w changed = State.indexFinished w (w.changed + changed.toNat) s := by
  obtain ⟨ha, h⟩ | ⟨ha, hn, h⟩ | ⟨ha, hn, h⟩ := finishIndex_cases s w changed <;> rw [h, State.indexFinished]
  · rw [if_pos (.inl ha), ha]; rfl
  · rw [if_pos (.inr hn), ha]; rfl
  · rw [if_neg (by simp [ha]; omega)]; rfl

/-- Only the walk and the link change when an index is finished. -/
theorem indexFinished_fields (w : Walk) (changed : Nat) (s : State) : State.indexFinished w changed s =
    { s with walk := (State.indexFinished w changed s).walk, link := (State.indexFinished w changed s).link } := by
  unfold State.indexFinished
  split <;> rfl

theorem indexFinished_roster (w : Walk) (changed : Nat) (s : State) :
    (State.indexFinished w changed s).roster = s.roster := by
  rw [indexFinished_fields]

theorem indexFinished_store (w : Walk) (changed : Nat) (s : State) :
    (State.indexFinished w changed s).store = s.store := by
  rw [indexFinished_fields]

theorem indexFinished_hand (w : Walk) (changed : Nat) (s : State) :
    (State.indexFinished w changed s).link.hand = s.link.hand := by
  unfold State.indexFinished
  split
  · exact post_link_hand s _ none
  · rfl

/-- How an index is finished does not depend on the records. -/
theorem indexFinished_applyRecord (w : Walk) (changed : Nat) (s : State) (k : Nat) (kit : Kit) :
    (State.indexFinished w changed (s.applyRecord k kit)).walk = (State.indexFinished w changed s).walk ∧
      (State.indexFinished w changed (s.applyRecord k kit)).link = (State.indexFinished w changed s).link := by
  rw [applyRecord_fields]
  unfold State.indexFinished
  split <;> exact ⟨rfl, rfl⟩

/-- No other requester waits after an index is finished, if none did before, and the walker waits no more. -/
theorem unwaited_indexFinished {s : State} (hl : s.wants .link = none) (hh : s.wants .handler = none) (w : Walk)
    (changed : Nat) (r : Requester) : (State.indexFinished w changed s).wants r = none := by
  cases r with
  | link => rw [State.wants, indexFinished_hand]; exact hl
  | walker => unfold State.indexFinished; split <;> rfl
  | handler => rw [indexFinished_fields]; exact hh

/-! ### The walker's request reckoned -/

/-- The hours a grace of this walk gives the kit. -/
def State.graceAccepted (s : State) (w : Walk) (r : KitRec) : Nat :=
  min (max r.horizon s.clock.dh + w.hours) s.ceiling - max r.horizon s.clock.dh

/-- The part as the granted index leaves it, before a write starts. -/
def State.graceGiven (s : State) (w : Walk) (r : KitRec) : State :=
  State.indexFinished w (w.changed + (gracedRec s.clock.dh s.ceiling w.hours w.number r).2.toNat)
    (s.applyRecord w.next (.enrolled (gracedRec s.clock.dh s.ceiling w.hours w.number r).1))

theorem reckonWalker_grants {s : State} {w : Walk} {r : KitRec} (hw : s.walk = some w) (hi : w.inHand = true)
    (hk : s.kit w.next = .enrolled r) (hq : qualifies s.clock.dh w.number w.scope (.enrolled r) = true) :
    s.reckonWalker = State.graceGiven s w r := by
  simp only [State.reckonWalker, hw, hi, hk, hq, if_true, finishIndex_eq, State.graceGiven]

theorem reckonWalker_passes {s : State} {w : Walk} (hw : s.walk = some w) (hi : w.inHand = true)
    (hk : ∀ r, s.kit w.next = .enrolled r → qualifies s.clock.dh w.number w.scope (.enrolled r) = false) :
    s.reckonWalker = State.indexFinished w w.changed s := by
  simp only [State.reckonWalker, hw, hi, if_true, finishIndex_eq]
  split
  · rename_i r hr
    rw [hk r hr, if_neg Bool.false_ne_true]
    rfl
  · rfl

theorem wants_walker {s : State} {w : Walk} (hw : s.walk = some w) (hi : w.inHand = true) : s.wants .walker = some w.next := by
  simp only [State.wants, hw, Option.bind_some, hi, if_true]

/-- A walker whose request is accepted while nobody else waits is reckoned, and the next write starts. -/
theorem tryAccept_walker_alone {s t : State} {k : Nat} (hw : s.wants .walker = some k) (hk : s.canAccept k = true)
    (he : s.reckonWalker = t) (ht : ∀ r, t.wants r = none) : s.tryAccept .walker = t.startNextWrite := by
  subst he
  have hserve : s.serveAccepted .walker = s.reckonWalker :=
    serveAccepted_alone hw (by rw [show (s.serve .walker).wants _ = none from ht _]; nofun)
      (by rw [show (s.serve .walker).wants _ = none from ht _]; nofun)
  simp only [State.tryAccept, hw, hk, if_true, hserve]

theorem exec_graceReckoning {s : State} (h : s.live = true) : exec .graceReckoning s = .next (s.tryAccept .walker) := by
  show execGraceReckoning s = _
  rw [execGraceReckoning, if_pos h]

theorem gracedRec_changed (s : State) (w : Walk) {r : KitRec} (hr : r.heldHours = none) :
    (gracedRec s.clock.dh s.ceiling w.hours w.number r).2.toNat = if State.graceAccepted s w r = 0 then 0 else 1 := by
  by_cases h : State.graceAccepted s w r = 0
  · rw [gracedRec_marked w.number h, if_pos h]; rfl
  · rw [gracedRec_granted w.number hr (Nat.pos_of_ne_zero h), if_neg h]; rfl

theorem graceGiven_finished (s : State) (w : Walk) {r : KitRec} (hr : r.heldHours = none) :
    let changed := w.changed + if State.graceAccepted s w r = 0 then 0 else 1
    (State.graceGiven s w r).walk = (State.indexFinished w changed s).walk ∧
      (State.graceGiven s w r).link.notices = (State.indexFinished w changed s).link.notices := by
  rw [State.graceGiven, gracedRec_changed s w hr]
  obtain ⟨hwalk, hlink⟩ := indexFinished_applyRecord w (w.changed + if State.graceAccepted s w r = 0 then 0 else 1) s w.next
    (.enrolled (gracedRec s.clock.dh s.ceiling w.hours w.number r).1)
  exact ⟨hwalk, congrArg Link.notices hlink⟩

theorem kit_graceGiven (s : State) (w : Walk) (r : KitRec) (j : Nat) : (State.graceGiven s w r).kit j =
    if j = w.next then .enrolled (gracedRec s.clock.dh s.ceiling w.hours w.number r).1 else s.kit j := by
  rw [State.graceGiven, kit_congr (indexFinished_roster ..)]
  exact kit_applyRecord s w.next _ j

theorem unsaved_graceGiven (s : State) (w : Walk) (r : KitRec) : (State.graceGiven s w r).unsaved w.next = true := by
  refine unsaved_of_mem ?_
  rw [State.graceGiven, indexFinished_store]
  exact mem_queue_applyRecord s w.next _

theorem unwaited_graceGiven {s : State} (hl : s.wants .link = none) (hh : s.wants .handler = none) (w : Walk) (r : KitRec) :
    ∀ q, (State.graceGiven s w r).wants q = none := by
  refine unwaited_indexFinished ?_ ?_ w _ <;> rw [applyRecord_fields]
  · exact hl
  · exact hh

/-- Settles O25: the record graced or passed over, the index finished, and no request let in by the write that starts. -/
theorem graceReckoningMarksAndGrants : Obligations.GraceReckoningMarksAndGrants := by
  intro s w hlive hw hi
  rw [exec_graceReckoning hlive]
  have hwants := wants_walker hw hi
  refine ⟨fun hfull => ?_, fun hroom hlink hhandler => ⟨fun r hk hheld hmark hscope => ?_, fun hpass hmode => ?_⟩⟩
  · simp only [State.tryAccept, hwants, hfull, Bool.false_eq_true, if_false]
  · dsimp only
    have hq := (qualifies_iff s.clock.dh w.number w.scope r).2 ⟨hheld, hmark, hscope⟩
    have hquiet := unwaited_graceGiven hlink hhandler w r
    rw [tryAccept_walker_alone hwants hroom (reckonWalker_grants hw hi hk hq) hquiet]
    obtain ⟨⟨queue, mode, hand, ht⟩, hunsaved⟩ := nextStarted_startNextWrite (.inl hquiet)
    have hkit (j : Nat) := (kit_congr (congrArg State.roster ht) j).trans (kit_graceGiven s w r j)
    obtain ⟨hwalk, hnotices⟩ := graceGiven_finished s w hheld
    refine ⟨_, rfl, (congrArg State.walk ht).trans hwalk,
      (congrArg (fun t : State => t.link.notices) ht).trans hnotices,
      hunsaved _ (unsaved_graceGiven s w r), fun j hj => (hkit j).trans (if_neg hj), fun h0 => ?_, fun hpos => ?_⟩
    · rw [hkit, if_pos rfl, gracedRec_marked (c := s.ceiling) _ h0]
    · rw [hkit, if_pos rfl, gracedRec_granted (c := s.ceiling) _ hheld hpos]
      rfl
  · have hserved := reckonWalker_passes hw hi fun r hk =>
      Bool.eq_false_iff.2 fun hq => hpass r hk ((qualifies_iff _ _ _ r).1 hq)
    rw [tryAccept_walker_alone hwants hroom hserved (unwaited_indexFinished hlink hhandler w _)]
    refine congrArg _ (startNextWrite_rests ?_)
    rw [indexFinished_fields]
    exact hmode

end Sys2Proof.Proofs
end

section
/-! PROOFS. WITHDRAWAL_ON_TAMPER: the record withdrawn or passed over, the frame finished with the rolls that close then, and
the write that may start (R48, R53, R122, R124). -/

namespace Sys2Proof.Proofs

open Sys2Proof Sys2Proof.Machine Sys2Proof.Laws

/-! ### What closing rolls makes of the records and the notices (R128, R129) -/

/-- The kit with another missed run and another SILENT flag. -/
def Kit.withRun (missed : Nat) (silent : Bool) : Kit → Kit
  | .enrolled r => .enrolled { r with missed := missed, silentReported := silent }
  | k => k

theorem sameStored_withRun (missed : Nat) (silent : Bool) (kit : Kit) : kit.sameStored (Kit.withRun missed silent kit) := by
  cases kit with
  | enrolled r => exact ⟨rfl, rfl, rfl, rfl, rfl, rfl, rfl, rfl, rfl⟩
  | free => rfl
  | damaged => rfl

/-- The notice is not the AUTO-HELD of a withdrawal on tamper. -/
def Notice.notAutoHeld (n : Notice) : Prop := ∀ h l i, n.kind ≠ .autoHeld h l i

/-- Of the records only missed runs and SILENT flags moved, and no AUTO-HELD was posted. -/
structure RunsOnly (s t : State) : Prop where
  kits    : ∀ k, ∃ missed silent, t.kit k = Kit.withRun missed silent (s.kit k)
  notices : ∀ n ∈ t.link.notices, n ∈ s.link.notices ∨ Notice.notAutoHeld n

theorem RunsOnly.of_kits {s t : State} (hk : ∀ k, t.kit k = s.kit k)
    (hn : ∀ n ∈ t.link.notices, n ∈ s.link.notices ∨ Notice.notAutoHeld n) : RunsOnly s t := by
  refine ⟨fun k => ?_, hn⟩
  rw [hk]
  cases s.kit k with
  | enrolled r => exact ⟨r.missed, r.silentReported, rfl⟩
  | free => exact ⟨0, false, rfl⟩
  | damaged => exact ⟨0, false, rfl⟩

theorem RunsOnly.refl (s : State) : RunsOnly s s := .of_kits (fun _ => rfl) fun _ => .inl

theorem RunsOnly.trans {s t u : State} (h : RunsOnly s t) (h' : RunsOnly t u) : RunsOnly s u := by
  refine ⟨fun k => ?_, fun n hn => (h'.notices n hn).elim (h.notices n) .inr⟩
  obtain ⟨m, b, hk⟩ := h.kits k
  obtain ⟨m', b', hk'⟩ := h'.kits k
  refine ⟨m', b', ?_⟩
  rw [hk', hk]
  cases s.kit k <;> rfl

theorem RunsOnly.sameStored {s t : State} (h : RunsOnly s t) (k : Nat) : (s.kit k).sameStored (t.kit k) := by
  obtain ⟨m, b, hk⟩ := h.kits k
  rw [hk]
  exact sameStored_withRun m b _

theorem runsOnly_post_if (s : State) (c : Bool) (n : NoticeKind) (k : Option Nat) (hn : ∀ h l i, n ≠ .autoHeld h l i) :
    RunsOnly s (if c then s.post n k else s) := by
  split
  · refine .of_kits (fun j => kit_congr (post_roster s n k) j) fun m hm => ?_
    rw [post_link] at hm
    split at hm
    · refine (List.mem_append.1 hm).imp_right fun hm => ?_
      rw [List.mem_singleton.1 hm]
      exact hn
    · exact .inl hm
  · exact .refl s

theorem runsOnly_putKit {s : State} {k : Nat} {r : KitRec} (hk : s.kit k = .enrolled r) (missed : Nat) (silent : Bool) :
    RunsOnly s (s.putKit k (.enrolled { r with missed := missed, silentReported := silent })) := by
  refine ⟨fun j => ?_, fun _ => .inl⟩
  rw [kit_putKit]
  split
  · subst j
    exact ⟨missed, silent, by rw [hk]; rfl⟩
  · exact (RunsOnly.refl s).kits j

theorem runsOnly_chargePosition (roll : Roll) (s : State) (p : Position) : RunsOnly s (s.chargePosition roll p) := by
  obtain h | ⟨r, hk, -, h⟩ := chargePosition_cases roll s p <;> rw [h]
  · exact .refl s
  · exact ((runsOnly_putKit hk _ _).trans (runsOnly_post_if _ _ _ _ (fun _ _ _ h => by cases h))).trans
      (runsOnly_post_if _ _ _ _ (fun _ _ _ h => by cases h))

theorem runsOnly_foldl {β : Type} {f : State → β → State} (hf : ∀ s b, RunsOnly s (f s b)) (l : List β) (s : State) :
    RunsOnly s (l.foldl f s) := by
  induction l generalizing s with
  | nil => exact .refl s
  | cons b l ih => exact (hf s b).trans (ih (f s b))

theorem runsOnly_closeRoll (s : State) (roll : Roll) : RunsOnly s (s.closeRoll roll) :=
  (runsOnly_foldl (runsOnly_chargePosition roll) _ s).trans (.of_kits (fun _ => rfl) fun _ => .inl)

theorem runsOnly_closeDone (s : State) : RunsOnly s s.closeDone := runsOnly_foldl runsOnly_closeRoll _ s

theorem runsOnly_finishFrame (s : State) : RunsOnly s s.finishFrame := by
  have hdropped : RunsOnly s (State.frameDropped s) := .of_kits (fun _ => rfl) fun _ => .inl
  exact hdropped.trans (runsOnly_closeDone _)

/-! ### The frame after its request: the next one made, or the frame finished (R124) -/

/-- The frame's second request is made, or the frame is finished. -/
def State.requestDone (second : Option HandlerReq) (s : State) : State :=
  match second with
  | some q => s.setHandler (.stalled q none)
  | none => s.finishFrame

/-- What the end of a request keeps, besides the records and notices it may move. -/
structure RequestDone (second : Option HandlerReq) (s t : State) : Prop where
  runs     : RunsOnly s t
  notices  : s.link.notices <+: t.link.notices
  store    : t.store = s.store
  clock    : t.clock = s.clock
  walk     : t.walk = s.walk
  hand     : t.link.hand = s.link.hand
  finished : second = none → t.handler = .idle ∧ t.framer.fifo = s.framer.fifo.tail
  made     : ∀ q, second = some q → t.handler = .stalled q none ∧ t.framer.fifo = s.framer.fifo

theorem requestDone_spec (second : Option HandlerReq) (s : State) : RequestDone second s (State.requestDone second s) := by
  cases second with
  | some q =>
    exact ⟨.of_kits (fun _ => rfl) fun _ => .inl, List.prefix_rfl, rfl, rfl, rfl, rfl, nofun,
      fun q' hq => by cases hq; exact ⟨rfl, rfl⟩⟩
  | none =>
    have h := (airActs_finishFrame s).kept
    exact ⟨runsOnly_finishFrame s, h.notices, h.store, h.clock, h.walk, h.hand,
      fun _ => ⟨h.handler, congrArg Framer.fifo h.framer⟩, nofun⟩

/-! ### The withdrawal reckoned (R53) -/

/-- The part as the withdrawal of this ACTIVE kit leaves it. -/
def State.tamperHeld (k : Nat) (r : KitRec) (s : State) : State :=
  (s.applyRecord k (.enrolled (withdrawnRec s.clock.dh false r))).post
    (.autoHeld (withdrawHeld s.clock.dh r.horizon) (withdrawLost s.clock.dh r.horizon) (r.issue + 1)) (some k)

theorem reckonTamper_active {s : State} {k : Nat} {r : KitRec} (hk : s.kit k = .enrolled r) (hr : r.heldHours = none) :
    s.reckonTamper k = State.tamperHeld k r s := by
  have hactive : r.active = true := by simp [KitRec.active, hr]
  simp only [State.reckonTamper, hk, hactive, if_true]
  rfl

theorem reckonTamper_passes {s : State} {k : Nat} (h : ∀ r, s.kit k = .enrolled r → r.heldHours ≠ none) :
    s.reckonTamper k = s := by
  unfold State.reckonTamper
  split
  · rename_i r hk
    have hactive : r.active = false := Bool.eq_false_iff.2 fun ha => h r hk (by simpa [KitRec.active] using ha)
    rw [hactive, if_neg Bool.false_ne_true]
  · rfl

theorem kit_tamperHeld (k : Nat) (r : KitRec) (s : State) (j : Nat) : (State.tamperHeld k r s).kit j =
    if j = k then .enrolled (withdrawnRec s.clock.dh false r) else s.kit j :=
  (kit_congr (post_roster _ _ _) j).trans (kit_applyRecord s k _ j)

theorem store_tamperHeld (k : Nat) (r : KitRec) (s : State) : (State.tamperHeld k r s).store =
    { s.store with queue := if k ∈ s.store.queue then s.store.queue else s.store.queue ++ [k] } := by
  rw [State.tamperHeld, post_store, applyRecord_fields]

theorem clock_tamperHeld (k : Nat) (r : KitRec) (s : State) : (State.tamperHeld k r s).clock = s.clock := by
  rw [State.tamperHeld, post_clock, applyRecord_fields]

theorem walk_tamperHeld (k : Nat) (r : KitRec) (s : State) : (State.tamperHeld k r s).walk = s.walk := by
  rw [State.tamperHeld, post_walk, applyRecord_fields]

theorem framer_tamperHeld (k : Nat) (r : KitRec) (s : State) : (State.tamperHeld k r s).framer = s.framer := by
  rw [State.tamperHeld, post_framer, applyRecord_fields]

/-- The AUTO-HELD of the withdrawal joins the tail while there is room (R53, R168). -/
theorem notices_tamperHeld {s : State} (h : s.link.notices.length < 32) (k : Nat) (r : KitRec) :
    (State.tamperHeld k r s).link.notices = s.link.notices ++
      [{ kind := .autoHeld (withdrawHeld s.clock.dh r.horizon) (withdrawLost s.clock.dh r.horizon) (r.issue + 1)
         dh := s.clock.dh, cycle := s.clock.cycle, kit := some k }] := by
  have hlink : (s.applyRecord k (.enrolled (withdrawnRec s.clock.dh false r))).link = s.link := by rw [applyRecord_fields]
  have hclock : (s.applyRecord k (.enrolled (withdrawnRec s.clock.dh false r))).clock = s.clock := by rw [applyRecord_fields]
  rw [State.tamperHeld, post_notices (hlink ▸ h), hlink, hclock]

/-! ### The handler's request accepted alone (R124, R146) -/

/-- A handler whose withdrawal is accepted while nobody else waits is reckoned, and the next write starts. -/
theorem exec_withdrawalOnTamper {s : State} {k : Nat} {second : Option HandlerReq} (hlive : s.live = true)
    (hs : s.handler = .stalled (.tamperHold k) second) (hk : s.canAccept k = true) (hlink : s.wants .link = none)
    (hwalker : s.wants .walker = none) {t : State} (ht : s.reckonTamper k = t) (hhand : t.link.hand = s.link.hand)
    (hwalk : t.walk = s.walk) :
    exec .withdrawalOnTamper s = .next (State.requestDone second t).startNextWrite := by
  have hdone := requestDone_spec second t
  have hreckon : s.serve .handler = State.requestDone second t := by
    subst ht
    exact (reckonHandler_stalled hs).trans (by cases second <;> rfl)
  have hwants : s.wants .handler = some k := by simp only [State.wants, hs, HandlerReq.kit]
  have hserve : s.serveAccepted .handler = State.requestDone second t := by
    rw [← hreckon]
    refine serveAccepted_alone hwants ?_ ?_ <;> rw [hreckon]
    · show (State.requestDone second t).wants .link ≠ _
      rw [State.wants, hdone.hand, hhand]
      exact fun h => absurd (hlink.symm.trans h) nofun
    · show (State.requestDone second t).wants .walker ≠ _
      rw [State.wants, hdone.walk, hwalk]
      exact fun h => absurd (hwalker.symm.trans h) nofun
  show execWithdrawalOnTamper s = _
  simp only [execWithdrawalOnTamper, hs, hlive, if_true, State.tryAccept, hwants, hk, hserve]

/-- After a short queue's request a write may start, and no request is let in. -/
theorem nextStarted_short {s : State} (h : s.store.mode ≠ .idle ∨ s.store.queue.length < queueCapacity) :
    NextStarted s s.startNextWrite := by
  obtain hm | hq := h
  · rw [startNextWrite_rests (.inl hm)]
    exact ⟨⟨_, _, _, rfl⟩, fun _ hk => hk⟩
  · exact nextStarted_startNextWrite (.inr hq)

/-- No index is lost or taken when the queue is empty or a write is in progress. -/
theorem queue_startNextWrite {s : State} (h : s.store.mode ≠ .idle ∨ s.store.queue = []) :
    s.startNextWrite.store.queue = s.store.queue := by
  obtain ⟨he, -⟩ | ⟨-, -, he⟩ | ⟨k, rest, hm, -, hq, -⟩ := startNextWrite_cases s
  · rw [he]
  · rw [he]; rfl
  · obtain h | h := h
    · exact absurd hm h
    · rw [h] at hq; cases hq

/-- The part after the request of a frame and the write that may start then. -/
structure RequestEnded (second : Option HandlerReq) (s t : State) : Prop where
  runs     : RunsOnly s t
  notices  : s.link.notices <+: t.link.notices
  cells    : t.store.cells = s.store.cells
  clock    : t.clock = s.clock
  unsaved  : ∀ k, s.unsaved k = true → t.unsaved k = true
  finished : second = none → t.handler = .idle ∧ t.framer.fifo = s.framer.fifo.tail
  made     : ∀ q, second = some q → t.handler = .stalled q none ∧ t.framer.fifo = s.framer.fifo

theorem requestEnded (second : Option HandlerReq) {s : State}
    (h : s.store.mode ≠ .idle ∨ s.store.queue.length < queueCapacity) :
    RequestEnded second s (State.requestDone second s).startNextWrite := by
  have hdone := requestDone_spec second s
  rw [← hdone.store] at h
  obtain ⟨⟨queue, mode, hand, ht⟩, hunsaved⟩ := nextStarted_short h
  generalize (State.requestDone second s).startNextWrite = t at ht hunsaved ⊢
  refine { runs := hdone.runs.trans (.of_kits (fun j => kit_congr (by rw [ht]) j) fun n hn => .inl ?_)
           notices := ?_, cells := ?_, clock := ?_, finished := fun hs => ?_, made := fun q hs => ?_
           unsaved := fun k hk => hunsaved k ?_ }
  · rw [ht] at hn; exact hn
  · rw [ht]; exact hdone.notices
  · have hcells := congrArg Store.cells hdone.store
    rw [ht]; exact hcells
  · rw [ht]; exact hdone.clock
  · simpa only [State.unsaved, hdone.store] using hk
  · rw [ht]; exact hdone.finished hs
  · rw [ht]; exact hdone.made q hs

theorem queue_tamperHeld_short {s : State} (h : s.store.mode ≠ .idle ∨ s.store.queue = []) (k : Nat) (r : KitRec) :
    (State.tamperHeld k r s).store.mode ≠ .idle ∨ (State.tamperHeld k r s).store.queue.length < queueCapacity := by
  rw [store_tamperHeld]
  refine h.imp_right fun hq => ?_
  simp [hq, queueCapacity]

/-- Settles O23: the record withdrawn or passed over, the request done, and the write that may start. -/
theorem tamperWithdrawalHoldsTheKit : Obligations.TamperWithdrawalHoldsTheKit := by
  intro s k second hlive hs hk hlink hwalker hmode
  by_cases hactive : ∃ r, s.kit k = .enrolled r ∧ r.heldHours = none
  · obtain ⟨r, hkit, hr⟩ := hactive
    refine ⟨_, exec_withdrawalOnTamper hlive hs hk hlink hwalker (reckonTamper_active hkit hr) (post_link_hand _ _ _)
      (walk_tamperHeld k r s), ?_⟩
    have hend := requestEnded second (queue_tamperHeld_short hmode k r)
    obtain ⟨missed, silent, hk'⟩ := hend.runs.kits k
    rw [kit_tamperHeld, if_pos rfl, withdrawnRec_eq] at hk'
    have hframer := framer_tamperHeld k r s
    refine ⟨hframer ▸ hend.finished, hframer ▸ hend.made, fun j hj => ?_,
      hend.cells.trans (by rw [store_tamperHeld]), hend.clock.trans (clock_tamperHeld k r s), ?_,
      fun h => absurd hr (h r hkit)⟩
    · have hsame := hend.runs.sameStored j
      rwa [kit_tamperHeld, if_neg hj] at hsame
    · intro r₁ hkit₁ _ held
      obtain rfl : r = r₁ := Kit.enrolled.inj (hkit.symm.trans hkit₁)
      refine ⟨_, hk', rfl, rfl, rfl, rfl, rfl, rfl, rfl, rfl, rfl, rfl, rfl, rfl, rfl, rfl, rfl,
        hend.unsaved k (unsaved_of_mem (mem_queue_applyRecord s k _)), fun hroom => ?_⟩
      have hposted := notices_tamperHeld hroom k r
      exact hposted ▸ hend.notices
  · have hpass : ∀ r, s.kit k = .enrolled r → r.heldHours ≠ none := fun r hkit hr => hactive ⟨r, hkit, hr⟩
    have hend := requestEnded second (s := s) (hmode.imp_right fun hq => by rw [hq]; decide)
    refine ⟨_, exec_withdrawalOnTamper hlive hs hk hlink hwalker (reckonTamper_passes hpass) rfl rfl, hend.finished, hend.made,
      fun j _ => hend.runs.sameStored j, hend.cells, hend.clock, fun r hkit hr => absurd hr (hpass r hkit),
      fun _ => ⟨hend.runs.sameStored k, ?_, fun n hn hnew => (hend.runs.notices n hn).resolve_left hnew⟩⟩
    have hstore := (requestDone_spec second s).store
    rw [queue_startNextWrite (by rw [hstore]; exact hmode), hstore]

end Sys2Proof.Proofs
end

section
/-! PROOFS. GRANT and SET HORIZON: the horizon they set, the hours they hold, and the figures they report (R22, R23, R39 to R47,
R58, R59). -/

namespace Sys2Proof.Proofs

open Sys2Proof Sys2Proof.Machine Sys2Proof.Laws

/-! ### A new horizon of an ACTIVE kit (R22, R23) -/

/-- An ACTIVE kit is locked exactly by its horizon (R18). -/
theorem locked_active {r : KitRec} (hr : r.heldHours = none) (dh : Nat) : r.locked dh = decide (r.horizon ≤ dh) := by
  simp [KitRec.locked, hr]

/-- The change of order that gives an ACTIVE kit another horizon: unlock is cleared where the kit is locked then, and set where
it was locked and runs then. -/
theorem changeOrder_horizon {r : KitRec} (hr : r.heldHours = none) (dh v : Nat) (notify : Bool) :
    changeOrder dh notify r { r with horizon := v } =
      { r with
        horizon := v
        issue := r.issue + 1
        settled := false
        sends := 0
        unlock := if v ≤ dh then false else if r.horizon ≤ dh then true else r.unlock
        notify := notify } := by
  have hunlock : unlockAfter dh r { r with horizon := v } =
      if v ≤ dh then false else if r.horizon ≤ dh then true else r.unlock := by
    have hnew : ({ r with horizon := v } : KitRec).locked dh = decide (v ≤ dh) :=
      locked_active (r := { r with horizon := v }) hr dh
    simp only [unlockAfter, hnew, locked_active hr dh, decide_eq_true_eq]
  rw [changeOrder, hunlock]

/-! ### GRANT of an ACTIVE kit (R39, R43, R44) -/

/-- The accepted hours are the rise above the base, which is never more than was asked for, and is none exactly when the base is
at or above the ceiling (R43, step 4). -/
theorem grantAccepted_bounds (dh c old h : Nat) (hh : 1 ≤ h) :
    grantAccepted dh c old h ≤ h ∧ (grantAccepted dh c old h = 0 ↔ c ≤ grantBase dh old) := by
  simp only [grantAccepted, grantHorizon, grantBase]
  split <;> omega

/-- A grant that gives hours leaves the kit running (R44). -/
theorem lt_grantHorizon {dh c old h : Nat} (ha : 0 < grantAccepted dh c old h) : dh < grantHorizon dh c old h := by
  simp only [grantAccepted, grantBase] at ha
  split at ha <;> omega

/-- A grant that gives an ACTIVE kit hours sets its horizon, and unlocks it if it was locked (R22, R23, R44). -/
theorem grantedRec_eq {dh c h : Nat} {r : KitRec} (hr : r.heldHours = none) (ha : 0 < grantAccepted dh c r.horizon h)
    (notify : Bool) : grantedRec dh c h notify r =
      { r with
        horizon := grantHorizon dh c r.horizon h
        issue := r.issue + 1
        settled := false
        sends := 0
        unlock := if r.horizon ≤ dh then true else r.unlock
        notify := notify } := by
  rw [grantedRec, changeOrder_horizon hr, if_neg (Nat.not_le.2 (lt_grantHorizon ha))]

theorem grantVerdict_active {p : List Byte} {r : KitRec} (hr : r.heldHours = none) (h1 : 1 ≤ field p 2 2)
    (h2 : field p 2 2 ≤ 8760) (dh advance : Nat) :
    let h := field p 2 2
    let c := ceiling dh advance
    let r' := grantedRec dh c h (flagAt p 4) r
    grantVerdict dh advance p (.enrolled r) =
      if grantAccepted dh c r.horizon h = 0 then .answer .capped (grantFigures 0 1 r.horizon r.issue c)
      else .apply (.enrolled r') (if grantAccepted dh c r.horizon h = h then .ok else .capped)
        (grantFigures (grantAccepted dh c r.horizon h) 1 r'.horizon r'.issue c) := by
  have hin : ¬ (field p 2 2 < 1 ∨ 8760 < field p 2 2) := by omega
  simp only [grantVerdict, if_neg hin, hr]

/-- Settles O47: the arithmetic of the grant, and then the request applied, or answered where no hours are accepted. -/
theorem grantRaisesTheHorizonUpToTheCeiling : Obligations.GrantRaisesTheHorizonUpToTheCeiling := by
  intro s tag p r h hc hp hroom hk hr h1 h2 hours c base raised accepted
  have hacc : accepted = grantAccepted s.clock.dh c r.horizon hours := remaining_eq base raised
  have hverdict := (congrArg (commandVerdict s .grant p) hk).trans
    (grantVerdict_active hr h1 h2 s.clock.dh s.settings.advance)
  obtain ⟨hle, hzero⟩ := grantAccepted_bounds s.clock.dh c r.horizon hours h1
  rw [hacc]
  refine ⟨hle, hzero, fun hpos => ?_, fun hnone => ?_⟩
  · refine exec_applied (k := .grant) h nofun (fun _ => rfl) hc hp hroom (hverdict.trans ?_)
    refine (if_neg (Nat.pos_iff_ne_zero.1 hpos)).trans ?_
    rw [grantedRec_eq (c := ceiling s.clock.dh s.settings.advance) hr hpos]
    rfl
  · exact exec_refused (k := .grant) h nofun (fun _ => rfl) hp hroom (hverdict.trans (if_pos hnone))

/-! ### GRANT of a HELD kit (R45) -/

theorem grantVerdict_held {p : List Byte} {r : KitRec} {held : Nat} (hr : r.heldHours = some held) (h1 : 1 ≤ field p 2 2)
    (h2 : field p 2 2 ≤ 8760) (dh advance : Nat) :
    let h := field p 2 2
    let c := ceiling dh advance
    let held' := grantHeld advance held h
    grantVerdict dh advance p (.enrolled r) =
      if held' - held = 0 then .answer .capped (grantFigures 0 2 held r.issue c)
      else .apply (.enrolled { r with heldHours := some held' }) (if held' - held = h then .ok else .capped)
        (grantFigures (held' - held) 2 held' r.issue c) := by
  have hin : ¬ (field p 2 2 < 1 ∨ 8760 < field p 2 2) := by omega
  simp only [grantVerdict, if_neg hin, hr]

theorem grantHeld_rise_le (advance held h : Nat) : grantHeld advance held h - held ≤ h := by
  rw [grantHeld]; omega

/-- Settles O48: the verdict on the held hours, and then the request applied, or answered where they do not rise. -/
theorem grantToAHeldKitAddsHeldHours : Obligations.GrantToAHeldKitAddsHeldHours := by
  intro s tag p r held h hc hp hroom hk hr h1 h2 hours c held' accepted
  have hverdict := (congrArg (commandVerdict s .grant p) hk).trans
    (grantVerdict_held hr h1 h2 s.clock.dh s.settings.advance)
  refine ⟨grantHeld_rise_le s.settings.advance held hours, fun hpos => ?_, fun hnone => ?_⟩
  · refine exec_applied (k := .grant) h nofun (fun _ => rfl) hc hp hroom
      (hverdict.trans (if_neg (Nat.pos_iff_ne_zero.1 hpos)))
  · exact exec_refused (k := .grant) h nofun (fun _ => rfl) hp hroom (hverdict.trans (if_pos hnone))

/-! ### SET HORIZON (R46, R47) -/

/-- What SET HORIZON makes of an ACTIVE kit, test by test: above the ceiling, at the horizon already, or placed. -/
theorem setHorizonVerdict_active {r : KitRec} (hr : r.heldHours = none) (dh advance : Nat) (p : List Byte) :
    let v := field p 2 3
    let c := ceiling dh advance
    let r' := changeOrder dh (flagAt p 5) r { r with horizon := v }
    setHorizonVerdict dh advance p (.enrolled r) =
      if c < v then .answer .range (be3 c)
      else if v = r.horizon then .answer .ok (be3 r.horizon ++ be2 r.issue.toNat ++ be3 c)
      else .apply (.enrolled r') .ok (be3 r'.horizon ++ be2 r'.issue.toNat ++ be3 c) := by
  have hactive : (!r.active) = false := by simp [KitRec.active, hr]
  simp only [setHorizonVerdict, hactive, Bool.false_eq_true, if_false]

/-- Settles O49: the verdict's three cases, two of them answers and the third the new horizon applied. -/
theorem setHorizonPlacesTheHorizon : Obligations.SetHorizonPlacesTheHorizon := by
  intro s tag p r h hc hp hroom hk hr v c
  have hverdict := (congrArg (commandVerdict s .setHorizon p) hk).trans
    (setHorizonVerdict_active hr s.clock.dh s.settings.advance p)
  have answered := fun st content =>
    exec_refused (k := .setHorizon) h nofun (fun _ => rfl) hp hroom (st := st) (content := content)
  refine ⟨fun hv => answered _ _ (hverdict.trans (if_pos hv)), fun hle hsame => answered _ _ ?_, fun hle hne => ?_⟩
  · exact hverdict.trans ((if_neg (Nat.not_lt.2 hle)).trans (if_pos hsame))
  · refine exec_applied (k := .setHorizon) h nofun (fun _ => rfl) hc hp hroom (hverdict.trans ?_)
    refine (if_neg (Nat.not_lt.2 hle)).trans ((if_neg hne).trans ?_)
    rw [changeOrder_horizon hr]
    rfl

end Sys2Proof.Proofs
end

section
/-! PROOFS. The settings block in the load: the settings and the pattern a good block gives, and the defaults where there is none
(R38, R75, R153, R184). -/

namespace Sys2Proof.Proofs

open Sys2Proof Sys2Proof.Machine Sys2Proof.Laws

/-- Each event that ends the read of the settings block loads what the read brought. -/
theorem exec_settingsRead {s : State} {c : Instr} {read : Option (List Byte)} (hl : s.clocked = true)
    (hm : s.store.mode = .readingSettings)
    (hc : (c = .settingsBlockRead .inError ∧ read = none) ∨ (∃ left, c = .storeMemoryTimeout left ∧ read = none) ∨
      (c = .settingsBlockRead .asStored ∧ read = some (readRun s.store.cells 0 64)) ∨
      (∃ bs, c = .settingsBlockRead (.bytes bs) ∧ bs.length = 64 ∧ read = some bs)) :
    exec c s = .next (s.loadSettings read) := by
  have hread : ∀ r, exec (.settingsBlockRead r) s = .next (s.loadSettings (s.portRead .settings r)) := fun r => by
    show execSettingsBlockRead r s = _
    simp only [execSettingsBlockRead, hm, live_of_clocked hl, if_true]
  obtain ⟨rfl, rfl⟩ | ⟨left, rfl, rfl⟩ | ⟨rfl, rfl⟩ | ⟨bs, rfl, hlen, rfl⟩ := hc
  · exact hread .inError
  · show execStoreMemoryTimeout left s = _
    simp only [execStoreMemoryTimeout, hl, if_true, State.memoryTimeout, hm]
  · exact hread .asStored
  · rw [hread, State.portRead, fitTo_of_length (n := (targetPlace .settings).2) hlen]

/-! ### The tests of a block (R153, R184) -/

/-- Every value a block holds is in its range: the settings, and the class each step byte names. -/
def blockSound (b : List Byte) : Prop :=
  (fieldsInRange (settingsOfBytes b) (field b 13 1)).all id = true ∧
    ∀ st ∈ (b.drop 14).take 16, (stepOfByte st).isSome = true

/-- The block is tested for its check and then for its ranges. -/
theorem blockFault_cases (b : List Byte) :
    (crcBytes (b.take 62) ≠ b.drop 62 → blockFault b = some 1) ∧
    (crcBytes (b.take 62) = b.drop 62 → ¬ blockSound b → blockFault b = some 3) ∧
    (crcBytes (b.take 62) = b.drop 62 → blockSound b → blockFault b = none) := by
  have hsound : ((fieldsInRange (settingsOfBytes b) (field b 13 1)).all id &&
      (firstBadStep ((b.drop 14).take 16)).isNone) = true ↔ blockSound b := by
    simp only [Bool.and_eq_true, Option.isNone_iff_eq_none, firstBadStep, List.findIdx?_eq_none_iff, blockSound,
      Option.isNone_eq_false_iff]
  refine ⟨fun h => if_pos (bne_iff_ne.2 h), fun h hbad => ?_, fun h hgood => ?_⟩ <;>
    rw [blockFault, if_neg (by simp [h])]
  · exact if_neg fun hg => hbad (hsound.1 hg)
  · exact if_pos (hsound.2 hgood)

/-- A block with a fault is rejected for its reason (R153). -/
theorem loadSettings_rejects {b : List Byte} {reason : Nat} (h : blockFault b = some reason) (s : State) :
    s.loadSettings (some b) = (s.rejectSettings reason).onStore fun c => { c with mode := .readingKit 0 } := by
  simp only [State.loadSettings, h]

/-- A block with no fault gives its values (R153). -/
theorem loadSettings_accepts {b : List Byte} (h : blockFault b = none) (s : State) :
    s.loadSettings (some b) = (s.acceptSettings b).onStore fun c => { c with mode := .readingKit 0 } := by
  simp only [State.loadSettings, h]

/-- Settles O30: the read loads what it brought, and the block's tests decide between its values and the defaults. -/
theorem settingsBlockReadSetsTheSettings : Obligations.SettingsBlockReadSetsTheSettings := by
  intro s c read hl hm hc lost
  have hexec := exec_settingsRead hl hm hc
  refine ⟨?_, ?_⟩
  · rintro rfl
    exact hexec
  · rintro b rfl good sound
    obtain ⟨hcheck, hrange, hnone⟩ := blockFault_cases b
    have rejected : ∀ reason, blockFault b = some reason → exec c s = .next (lost reason) := fun reason h => by
      rw [hexec, loadSettings_rejects h]; rfl
    refine ⟨fun h => rejected 1 (hcheck h), fun h hbad => rejected 3 (hrange h hbad), fun h hgood => ?_⟩
    rw [hexec, loadSettings_accepts (hnone h hgood)]
    rfl

end Sys2Proof.Proofs
end

section
/-! PROOFS. RECEIPT_HANDLE on a frame that is accepted: the record after the receipt by the reading of its held issue, the counter
of the reading, and the kit's places in the lists (R56, R57, R73, R118 to R121). -/

namespace Sys2Proof.Proofs

open Sys2Proof Sys2Proof.Machine Sys2Proof.Laws

/-! ### The reading of a held issue (R56) -/

theorem readIssue_current {held current : Issue} (h : (current - held).toNat = 0) : readIssue held current = .current :=
  if_pos h

theorem readIssue_behind {held current : Issue} (h : 1 ≤ (current - held).toNat) (h' : (current - held).toNat ≤ 32767) :
    readIssue held current = .behind := (if_neg (Nat.pos_iff_ne_zero.1 h)).trans (if_pos h')

theorem readIssue_ahead {held current : Issue} (h : 32768 ≤ (current - held).toNat) : readIssue held current = .ahead :=
  (if_neg (show ¬ (current - held).toNat = 0 by omega)).trans (if_neg (show ¬ (current - held).toNat ≤ 32767 by omega))

/-- The counter of a reading (R119, R120). -/
def Reading.counter : Reading → Counter
  | .current => .confirmed
  | .behind => .behind
  | .ahead => .ahead

/-- The record after the reading of a held issue: settled with its issue confirmed, behind, or as it was (R119, R120). -/
def readRec (held : Issue) (r : KitRec) : KitRec :=
  match readIssue held r.issue with
  | .current => { r with confirmed := some r.issue, settled := true, notify := r.settled && r.notify }
  | .behind => behindRec held r
  | .ahead => r

/-- The record of kit `k` was put in its place and the counter raised; what else was posted leaves the records, the lists and
the rolls. -/
structure Counted (s t : State) (k : Nat) (r : KitRec) (w : Counter) : Prop where
  roster   : t.roster = (s.putKit k (.enrolled r)).roster
  lists    : t.scheduler.lists = (s.putKit k (.enrolled r)).scheduler.lists
  rolls    : t.builder.rolls = s.builder.rolls
  counters : t.link.counters = s.link.counters.raise w 1

theorem counted_settleKit (s : State) (k : Nat) (r : KitRec) : Counted s ((s.raise .confirmed).settleKit k r true) k
    { r with confirmed := some r.issue, settled := true, notify := false } .confirmed := by
  unfold State.settleKit
  dsimp only
  split
  · exact ⟨rfl, rfl, rfl, post_link_counters _ _ _⟩
  · exact ⟨rfl, rfl, rfl, rfl⟩

/-- What the issue comparison does: it puts the read record in its place and raises the reading's counter. -/
theorem counted_applyReading (s : State) (k : Nat) (held : Issue) (r : KitRec) :
    Counted s (s.applyReading k held r) k (readRec held r) (Reading.counter (readIssue held r.issue)) := by
  unfold State.applyReading readRec
  cases readIssue held r.issue with
  | current =>
    dsimp only
    by_cases hs : r.settled = true
    · have hread : { r with confirmed := some r.issue, settled := true, notify := r.settled && r.notify } =
          { r with confirmed := some r.issue } := by rw [hs, Bool.true_and, ← hs]
      rw [if_pos hs, hread]
      exact ⟨rfl, rfl, rfl, rfl⟩
    · have hs : r.settled = false := Bool.eq_false_iff.2 hs
      have hsettle := counted_settleKit s k r
      rwa [if_neg (by rw [hs]; exact Bool.false_ne_true), hs, Bool.false_and, Reading.counter]
  | behind => exact ⟨rfl, rfl, rfl, rfl⟩
  | ahead => exact ⟨rfl, rfl, rfl, post_link_counters _ _ _⟩

/-! ### The places of one kit in the lists (R73) -/

/-- The lists' table is canonical, and kit `k` stands in exactly the lists it is required in. -/
structure Listed (k : Nat) (s : State) : Prop where
  lists  : canonical [] s.scheduler.lists = true
  places : ∀ slot, k ∈ s.list slot ↔ slot ∈ (s.kit k).requiredSlots

theorem Listed.congr {k : Nat} {s t : State} (h : Listed k s) (hr : t.roster = s.roster)
    (hl : t.scheduler.lists = s.scheduler.lists) : Listed k t := by
  refine ⟨hl ▸ h.lists, fun slot => ?_⟩
  rw [list_congr hl, kit_congr hr]
  exact h.places slot

/-- A record put in its place takes its kit's places in the lists. -/
theorem listed_putKit {s : State} (hc : canonical [] s.scheduler.lists = true) (k : Nat) (kit : Kit) :
    Listed k (s.putKit k kit) := by
  refine ⟨canonical_relist hc k _, fun slot => ?_⟩
  rw [list_putKit hc, kit_putKit, if_pos rfl]
  split
  · rename_i hslot
    split <;> simp_all
  · rename_i hslot
    simp [hslot]

/-- A record put in its place leaves every other kit its places. -/
theorem mem_list_putKit {s : State} (hc : canonical [] s.scheduler.lists = true) {j k : Nat} (h : k ≠ j) (kit : Kit)
    (slot : Nat) : k ∈ (s.putKit j kit).list slot ↔ k ∈ s.list slot := by
  rw [list_putKit hc]
  split
  · split
    · exact Iff.rfl
    · simp [h]
  · simp [h]

theorem Listed.putKit {k : Nat} {s : State} (h : Listed k s) (j : Nat) (kit : Kit) : Listed k (s.putKit j kit) := by
  by_cases hj : k = j
  · subst hj; exact listed_putKit h.lists k kit
  · refine ⟨canonical_relist h.lists j _, fun slot => ?_⟩
    rw [mem_list_putKit h.lists hj, kit_putKit, if_neg hj]
    exact h.places slot

theorem Listed.airAct {k : Nat} {s t : State} (h : Listed k s) (ha : AirAct s t) : Listed k t := by
  cases ha with
  | record r' => exact h.putKit _ _
  | _ => exact h.congr rfl rfl

theorem Listed.airActs {k : Nat} {s t : State} (h : Listed k s) (ha : AirActs s t) : Listed k t := by
  induction ha with
  | refl => exact h
  | tail _ ha ih => exact ih.airAct ha

/-! ### The receipt heard (R118 to R121) -/

theorem windowEnded_markAnswered {id position : Nat} {rolls : List Roll} (h : ∀ q ∈ rolls, q.windowEnded = false) :
    ∀ q ∈ markAnswered id position rolls, q.windowEnded = false := by
  intro q hq
  obtain ⟨q', hq', rfl⟩ := List.mem_map.1 hq
  split <;> exact h q' hq'

/-- The part as an accepted receipt finds the issues to compare: the position answered, and TAMPER and USAGE posted where they
are due. -/
def State.receiptNoted (roll : Roll) (k : Nat) (f : Frame) (r : KitRec) (s : State) : State :=
  let st := receiptStatus f.bytes
  let s := s.onBuilder fun b => { b with rolls := markAnswered roll.id f.position b.rolls }
  let s := if tamperHit s.settings st.lid r.tamper then s.post (.tamper (heardRec f r).tamper st) (some k) else s
  if s.settings.usageNotices then s.post (.usage (receiptUsage f.bytes) st) (some k) else s

theorem receiptHeard_eq (roll : Roll) (k : Nat) (f : Frame) (r : KitRec) (s : State) : State.receiptHeard roll k f r s =
    (State.receiptNoted roll k f r s).applyReading k (receiptIssue f.bytes) (heardRec f r) := rfl

/-- Noting a receipt leaves the records, the lists and the counters. -/
theorem receiptNoted_kept (roll : Roll) (k : Nat) (f : Frame) (r : KitRec) (s : State) :
    let u := State.receiptNoted roll k f r s
    u.roster = s.roster ∧ u.scheduler = s.scheduler ∧ u.link.counters = s.link.counters ∧
      u.builder.rolls = markAnswered roll.id f.position s.builder.rolls := by
  unfold State.receiptNoted
  dsimp only
  split <;> split <;> exact ⟨rfl, rfl, by simp only [post_link_counters, onBuilder_link], rfl⟩

/-- The record of a kit after an accepted receipt, but for what the rolls that close then charge. -/
def receivedRec (f : Frame) (r : KitRec) : KitRec := readRec (receiptIssue f.bytes) (heardRec f r)

/-- What an accepted receipt makes of the part before its frame is finished or its requests are made. -/
structure ReceiptHeard (s t : State) (k : Nat) (f : Frame) (r : KitRec) : Prop where
  kept     : AirKept s t
  kit      : t.kit k = .enrolled (receivedRec f r)
  listed   : Listed k t
  windows  : (∀ q ∈ s.builder.rolls, q.windowEnded = false) → ∀ q ∈ t.builder.rolls, q.windowEnded = false
  counters : t.link.counters = s.link.counters.raise (Reading.counter (readIssue (receiptIssue f.bytes) r.issue)) 1

theorem receiptHeard_spec {s : State} {k : Nat} {r : KitRec} (hc : s.tablesCanonical = true) (hk : s.kit k = .enrolled r)
    (roll : Roll) (f : Frame) : ReceiptHeard s (State.receiptHeard roll k f r s) k f r := by
  obtain ⟨-, hscheduler, hcounters, hrolls⟩ := receiptNoted_kept roll k f r s
  have hread := counted_applyReading (State.receiptNoted roll k f r s) k (receiptIssue f.bytes) (heardRec f r)
  have hlists : canonical [] (State.receiptNoted roll k f r s).scheduler.lists = true := by
    simp only [State.tablesCanonical, Bool.and_eq_true] at hc
    obtain ⟨⟨⟨⟨-, hl⟩, -⟩, -⟩, -⟩ := hc
    rw [hscheduler]
    exact hl
  refine ⟨(airActs_receiptHeard hk roll f).kept, ?_, ?_, fun h => ?_, ?_⟩
  · rw [receiptHeard_eq, kit_congr hread.roster, kit_putKit, if_pos rfl]
    rfl
  · exact (listed_putKit hlists k _).congr hread.roster hread.lists
  · rw [receiptHeard_eq, hread.rolls, hrolls]
    exact windowEnded_markAnswered h
  · rw [receiptHeard_eq, hread.counters, hcounters]
    rfl

/-! ### The end of an accepted receipt (R115, R124, R126) -/

/-- With no window ended no roll closes. -/
theorem closeDone_open {s : State} (h : ∀ q ∈ s.builder.rolls, q.windowEnded = false) : s.closeDone = s := by
  have hnone : s.builder.rolls.filter (rollDone s.framer.fifo) = [] :=
    List.filter_eq_nil_iff.2 fun q hq => by simp [rollDone, h q hq]
  rw [State.closeDone, hnone]
  rfl

/-- The frame is finished or its requests are made, and what that moves at most. -/
structure ReceiptEnded (s t : State) : Prop where
  runs   : RunsOnly s t
  kept   : Kept s t
  store  : t.store = s.store
  listed : ∀ k, Listed k s → Listed k t
  roster : (∀ q ∈ s.builder.rolls, q.windowEnded = false) → t.roster = s.roster

theorem receiptEnded_finishFrame (s : State) : ReceiptEnded s s.finishFrame where
  runs := runsOnly_finishFrame s
  kept := kept_finishFrame s
  store := (airActs_finishFrame s).kept.store
  listed := fun _ h => (h.congr (t := State.frameDropped s) rfl rfl).airActs (airActs_finishFrame s)
  roster := fun h => by
    show (State.frameDropped s).closeDone.roster = _
    rw [closeDone_open (s := State.frameDropped s) h]
    rfl

theorem receiptEnded_setHandler (s : State) (h : Handler) : ReceiptEnded s (s.setHandler h) where
  runs := .of_kits (fun _ => rfl) fun _ => .inl
  kept := kept_setHandler s h
  store := rfl
  listed := fun _ h => h.congr rfl rfl
  roster := fun _ => rfl

theorem receiptEnded_acceptReceipt (s : State) (roll : Roll) (k : Nat) (f : Frame) (r : KitRec) :
    ReceiptEnded (State.receiptHeard roll k f r s) (s.acceptReceipt roll k f r) := by
  obtain ⟨-, h⟩ | ⟨q, rest, -, h⟩ := acceptReceipt_cases s roll k f r <;> rw [h]
  · exact receiptEnded_finishFrame _
  · exact receiptEnded_setHandler _ _

/-- A frame that names a position of an open roll, an enrolled kit there, and passes the check is accepted (R116, R117). -/
theorem judge_accepted {s : State} {f : Frame} {roll : Roll} {p : Position} {r : KitRec}
    (hroll : s.builder.rolls.find? (fun q => f.roll = some q.id) = some roll)
    (hdistrict : receiptDistrict f.bytes = s.settings.district) (h1 : 1 ≤ f.position)
    (hp : roll.positions[f.position - 1]? = some p) (hkit : p.kit = receiptKit f.bytes)
    (hk : s.kit (receiptKit f.bytes) = .enrolled r) (hgood : receiptGood r.code f.bytes = true) :
    s.judge f = .accepted roll (receiptKit f.bytes) r := by
  have hroll : s.rollOf f = some roll := hroll
  have hpos : f.position ≠ 0 := Nat.pos_iff_ne_zero.1 h1
  simp [State.judge, hroll, hdistrict, hpos, hp, hkit, hk, hgood]

/-- The idle handler takes a frame that is accepted (R115). -/
theorem exec_receiptHandle_accepted {s : State} {f : Frame} {rest : List Frame} {roll : Roll} {k : Nat} {r : KitRec}
    (hl : s.live = true) (hop : s.link.op ≠ .loading) (hidle : s.handler = .idle) (hfifo : s.framer.fifo = f :: rest)
    (hj : s.judge f = .accepted roll k r) : exec .receiptHandle s = .next (s.acceptReceipt roll k f r) := by
  have hnot : (s.link.op != .loading) = true := bne_iff_ne.2 hop
  show execReceiptHandle s = _
  simp only [execReceiptHandle, hidle, hfifo, hl, hnot, Bool.and_self, if_true, State.handleFrame, hj]

/-- The contact fields after an accepted receipt, and what no reading changes (R118, R121). -/
theorem receivedRec_contact (f : Frame) (r : KitRec) :
    let r' := receivedRec f r
    r.sameStored r' ∧ r'.lastHeard = some f.cycle ∧ r'.lastStatus = some (receiptStatus f.bytes) ∧
      r'.tamper = (if (receiptStatus f.bytes).lid then min (r.tamper + 1) 15 else 0) ∧
      r'.lastSent = r.lastSent ∧ r'.unlock = r.unlock ∧ r'.moveSent = r.moveSent ∧ r'.missed = 0 ∧
      r'.silentReported = false := by
  unfold receivedRec readRec
  split <;> exact ⟨⟨rfl, rfl, rfl, rfl, rfl, rfl, rfl, rfl, rfl⟩, rfl, rfl, rfl, rfl, rfl, rfl, rfl, rfl⟩

theorem receivedRec_current {f : Frame} {r : KitRec} (h : readIssue (receiptIssue f.bytes) r.issue = .current) :
    receivedRec f r =
      { heardRec f r with confirmed := some r.issue, settled := true, notify := r.settled && r.notify } := by
  rw [receivedRec, readRec, show readIssue _ (heardRec f r).issue = _ from h]
  rfl

theorem receivedRec_behind {f : Frame} {r : KitRec} (h : readIssue (receiptIssue f.bytes) r.issue = .behind) :
    receivedRec f r = behindRec (receiptIssue f.bytes) (heardRec f r) := by
  rw [receivedRec, readRec, show readIssue _ (heardRec f r).issue = _ from h]

theorem receivedRec_ahead {f : Frame} {r : KitRec} (h : readIssue (receiptIssue f.bytes) r.issue = .ahead) :
    receivedRec f r = heardRec f r := by
  rw [receivedRec, readRec, show readIssue _ (heardRec f r).issue = _ from h]

/-- Settles O20: the receipt is heard, with the record and the counter of its reading, and then its frame ends, which moves no
more than the missed runs and the SILENT flags of rolls that close. -/
theorem acceptedReceiptIsReadByItsDistance : Obligations.AcceptedReceiptIsReadByItsDistance := by
  intro s f rest roll p r hl hop hidle hfifo hroll hdistrict h1 hp hkit hk hgood hc k held d
  have hj := judge_accepted hroll hdistrict h1 hp hkit hk hgood
  have hheard := receiptHeard_spec hc hk roll f
  have hend := receiptEnded_acceptReceipt s roll k f r
  obtain ⟨missed, silent, hk'⟩ := hend.runs.kits k
  rw [hheard.kit] at hk'
  have hcounters := hend.kept.counters.trans hheard.counters
  obtain ⟨hsame, hheardAt, hstatus, htamper, hsent, hunlock, hmove, hmissed, hsilent⟩ := receivedRec_contact f r
  refine ⟨_, _, exec_receiptHandle_accepted hl hop hidle hfifo hj, hk', hsame, hheardAt, hstatus, htamper, hsent, hunlock,
    hmove, fun hopen => ?_, fun hd => ?_, fun hd hd' => ?_, fun hd => ?_, (hend.listed k hheard.listed).places,
    fun j _ => Kit.sameStored_trans (hheard.kept.stored j) (hend.runs.sameStored j), hend.store.trans hheard.kept.store,
    hend.kept.settings.trans hheard.kept.settings, hend.kept.clock.trans hheard.kept.clock⟩
  · have hstill := (kit_congr (hend.roster (hheard.windows hopen)) k).trans hheard.kit
    rw [hk'] at hstill
    have hrec := Kit.enrolled.inj hstill
    rw [hrec]
    exact ⟨hmissed, hsilent⟩
  · have hread := readIssue_current (held := held) (current := r.issue) hd
    rw [hread] at hcounters
    rw [receivedRec_current hread]
    refine ⟨rfl, rfl, rfl, (congrArg Counters.confirmed hcounters :), (congrArg Counters.behind hcounters :),
      (congrArg Counters.ahead hcounters :), fun hpending => ?_⟩
    show (r.settled && r.notify) = false
    rw [hpending, Bool.false_and]
  · have hread := readIssue_behind (held := held) (current := r.issue) hd hd'
    rw [hread] at hcounters
    rw [receivedRec_behind hread]
    exact ⟨rfl, rfl, rfl, rfl, (congrArg Counters.behind hcounters :), (congrArg Counters.confirmed hcounters :),
      (congrArg Counters.ahead hcounters :)⟩
  · have hread := readIssue_ahead (held := held) (current := r.issue) hd
    rw [hread] at hcounters
    rw [receivedRec_ahead hread]
    exact ⟨rfl, rfl, rfl, rfl, (congrArg Counters.ahead hcounters :), (congrArg Counters.confirmed hcounters :),
      (congrArg Counters.behind hcounters :)⟩

end Sys2Proof.Proofs
end

section
/-! SUPPORT. The requests that wait for the dirty queue, one by one: what each would make of its record, and what the part is
after its reckoning, whether it takes room or leaves it (R41, R53, R63, R124, R137, R146). -/

namespace Sys2Proof.Proofs

open Sys2Proof Sys2Proof.Machine Sys2Proof.Laws

/-! ### Records whose missed runs and SILENT flags moved -/

/-- Of the records only missed runs and SILENT flags moved. -/
def RunsMoved (s t : State) : Prop := ∀ k, ∃ missed silent, t.kit k = Kit.withRun missed silent (s.kit k)

theorem RunsMoved.of_kits {s t : State} (h : ∀ k, t.kit k = s.kit k) : RunsMoved s t :=
  (RunsOnly.of_kits (s := s) (t := { t with link := s.link }) h fun _ => .inl).kits

theorem RunsMoved.trans {s t u : State} (h : RunsMoved s t) (h' : RunsMoved t u) : RunsMoved s u := fun k => by
  obtain ⟨m, b, hk⟩ := h k
  obtain ⟨m', b', hk'⟩ := h' k
  refine ⟨m', b', ?_⟩
  rw [hk', hk]
  cases s.kit k <;> rfl

theorem RunsMoved.sameStored {s t : State} (h : RunsMoved s t) (k : Nat) : (s.kit k).sameStored (t.kit k) := by
  obtain ⟨m, b, hk⟩ := h k
  rw [hk]
  exact sameStored_withRun m b _

/-! ### What a request makes of a record -/

/-- The record a verdict makes, if it makes one. -/
def Verdict.made : Verdict → Option Kit
  | .answer _ _ => none
  | .apply kit _ _ => some kit

/-- The verdict with another record made. -/
def Verdict.onKit (f : Kit → Kit) : Verdict → Verdict
  | .answer st content => .answer st content
  | .apply kit st content => .apply (f kit) st content

theorem made_onKit (f : Kit → Kit) (v : Verdict) : Verdict.made (Verdict.onKit f v) = (Verdict.made v).map f := by
  cases v <;> rfl

/-- A verdict that makes no record is an answer, and one that makes a record applies it. -/
theorem made_eq_none {v : Verdict} (h : Verdict.made v = none) : ∃ st content, v = .answer st content := by
  cases v with
  | answer st content => exact ⟨st, content, rfl⟩
  | apply => cases h

theorem made_eq_some {v : Verdict} {kit : Kit} (h : Verdict.made v = some kit) : ∃ st content, v = .apply kit st content := by
  cases v with
  | answer => cases h
  | apply kit' st content => cases h; exact ⟨st, content, rfl⟩

theorem stateCode_withRun (m : Nat) (b : Bool) (kit : Kit) : (Kit.withRun m b kit).stateCode = kit.stateCode := by
  cases kit <;> rfl

theorem wrongState_withRun (m : Nat) (b : Bool) (kit : Kit) (f : Kit → Kit) :
    wrongState (Kit.withRun m b kit) = Verdict.onKit f (wrongState kit) := by
  rw [wrongState, stateCode_withRun]; rfl

/-- A kit to enrol is new, so its missed run and SILENT flag do not come from a record. -/
theorem enrolVerdict_withRun (c : Nat) (p : List Byte) (m : Nat) (b : Bool) (kit : Kit) :
    enrolVerdict c p (Kit.withRun m b kit) = Verdict.onKit (Kit.withRun 0 false) (enrolVerdict c p kit) := by
  cases kit with
  | free =>
    show enrolVerdict c p .free = _
    cases hout : enrolOutOfRange c p
    · rw [enrolVerdict_free hout]; rfl
    · rw [enrolVerdict_range hout]; rfl
  | damaged => rfl
  | enrolled r => exact wrongState_withRun m b (.enrolled r) _

theorem restoreVerdict_withRun (c : Nat) (p : List Byte) (m : Nat) (b : Bool) (kit : Kit) :
    restoreVerdict c p (Kit.withRun m b kit) = Verdict.onKit (Kit.withRun 0 false) (restoreVerdict c p kit) := by
  cases kit with
  | free => rfl
  | damaged =>
    show restoreVerdict c p .damaged = _
    rw [restoreVerdict, if_pos rfl]
    cases enrolOutOfRange c p <;> rfl
  | enrolled r => exact wrongState_withRun m b (.enrolled r) _

theorem grantVerdict_withRun (dh advance : Nat) (p : List Byte) (m : Nat) (b : Bool) (r : KitRec) :
    grantVerdict dh advance p (Kit.withRun m b (.enrolled r)) =
      Verdict.onKit (Kit.withRun m b) (grantVerdict dh advance p (.enrolled r)) := by
  have hwith : Kit.withRun m b (.enrolled r) = .enrolled { r with missed := m, silentReported := b } := rfl
  rw [hwith]
  by_cases hin : field p 2 2 = 0 ∨ 8760 < field p 2 2
  · rw [grantVerdict_range dh advance hin, grantVerdict_range dh advance hin]
    rfl
  · obtain ⟨h1, h2⟩ := not_or.1 hin
    have h1 := Nat.pos_of_ne_zero h1
    have h2 := Nat.not_lt.1 h2
    obtain hr | ⟨held, hr⟩ := Option.eq_none_or_eq_some r.heldHours
    · rw [grantVerdict_active hr h1 h2, grantVerdict_active (r := { r with missed := m, silentReported := b }) hr h1 h2,
        apply_ite (Verdict.onKit _)]
      rfl
    · rw [grantVerdict_held hr h1 h2, grantVerdict_held (r := { r with missed := m, silentReported := b }) hr h1 h2,
        apply_ite (Verdict.onKit _)]
      rfl

theorem setHorizonVerdict_withRun (dh advance : Nat) (p : List Byte) (m : Nat) (b : Bool) (r : KitRec) :
    setHorizonVerdict dh advance p (Kit.withRun m b (.enrolled r)) =
      Verdict.onKit (Kit.withRun m b) (setHorizonVerdict dh advance p (.enrolled r)) := by
  simp only [setHorizonVerdict, Kit.withRun, apply_ite (Verdict.onKit _)]
  rfl

theorem withdrawVerdict_withRun (dh : Nat) (p : List Byte) (m : Nat) (b : Bool) (r : KitRec) :
    withdrawVerdict dh p (Kit.withRun m b (.enrolled r)) =
      Verdict.onKit (Kit.withRun m b) (withdrawVerdict dh p (.enrolled r)) := by
  simp only [withdrawVerdict, Kit.withRun, apply_ite (Verdict.onKit _)]
  rfl

theorem resumeVerdict_active {r : KitRec} (hr : r.heldHours = none) (dh advance : Nat) (p : List Byte) :
    resumeVerdict dh advance p (.enrolled r) = wrongState (.enrolled r) := by
  simp only [resumeVerdict, hr]

theorem resumeVerdict_held {r : KitRec} {held : Nat} (hr : r.heldHours = some held) (dh advance : Nat) (p : List Byte) :
    let c := ceiling dh advance
    let r' := resumedRec dh c held (flagAt p 2) r
    resumeVerdict dh advance p (.enrolled r) =
      .apply (.enrolled r') .ok (be3 r'.horizon ++ be3 (resumeLost dh c held) ++ be2 r'.issue.toNat ++ be3 c) := by
  simp only [resumeVerdict, hr]

theorem resumeVerdict_withRun (dh advance : Nat) (p : List Byte) (m : Nat) (b : Bool) (r : KitRec) :
    resumeVerdict dh advance p (Kit.withRun m b (.enrolled r)) =
      Verdict.onKit (Kit.withRun m b) (resumeVerdict dh advance p (.enrolled r)) := by
  have hwith : Kit.withRun m b (.enrolled r) = .enrolled { r with missed := m, silentReported := b } := rfl
  rw [hwith]
  obtain hr | ⟨held, hr⟩ := Option.eq_none_or_eq_some r.heldHours
  · rw [resumeVerdict_active hr, resumeVerdict_active (r := { r with missed := m, silentReported := b }) hr]
    rfl
  · rw [resumeVerdict_held hr, resumeVerdict_held (r := { r with missed := m, silentReported := b }) hr]
    rfl

theorem moveVerdict_withRun (dh : Nat) (uplink : Bool) (p : List Byte) (m : Nat) (b : Bool) (r : KitRec) :
    moveVerdict dh uplink p (Kit.withRun m b (.enrolled r)) =
      Verdict.onKit (Kit.withRun m b) (moveVerdict dh uplink p (.enrolled r)) := by
  simp only [moveVerdict, Kit.withRun, apply_ite (Verdict.onKit _)]
  rfl

/-- No command's verdict looks at the missed run or the SILENT flag. -/
theorem commandVerdict_withRun (s : State) (c : CmdKind) (p : List Byte) (m : Nat) (b : Bool) (kit : Kit) :
    ∃ m' b', commandVerdict s c p (Kit.withRun m b kit) = Verdict.onKit (Kit.withRun m' b') (commandVerdict s c p kit) := by
  cases c with
  | enrol => exact ⟨0, false, enrolVerdict_withRun ..⟩
  | restore => exact ⟨0, false, restoreVerdict_withRun ..⟩
  | grant => cases kit with
    | enrolled r => exact ⟨m, b, grantVerdict_withRun ..⟩
    | _ => exact ⟨m, b, rfl⟩
  | setHorizon => cases kit with
    | enrolled r => exact ⟨m, b, setHorizonVerdict_withRun ..⟩
    | _ => exact ⟨m, b, rfl⟩
  | withdraw => cases kit with
    | enrolled r => exact ⟨m, b, withdrawVerdict_withRun ..⟩
    | _ => exact ⟨m, b, rfl⟩
  | resume => cases kit with
    | enrolled r => exact ⟨m, b, resumeVerdict_withRun ..⟩
    | _ => exact ⟨m, b, rfl⟩
  | move => cases kit with
    | enrolled r => exact ⟨m, b, moveVerdict_withRun ..⟩
    | _ => exact ⟨m, b, rfl⟩
  | retire => cases kit <;> exact ⟨m, b, rfl⟩
  | _ => exact ⟨m, b, wrongState_withRun ..⟩

/-- A verdict depends on the clock and the settings only, besides the record (R41). -/
theorem commandVerdict_congr {s t : State} (hc : t.clock = s.clock) (hs : t.settings = s.settings) (c : CmdKind)
    (p : List Byte) (kit : Kit) : commandVerdict t c p kit = commandVerdict s c p kit := by
  simp only [commandVerdict, State.ceiling, hc, hs]

/-- The verdict of a command in hand on the record it waits for. -/
def handVerdict (s : State) (h : Hand) (kit : Kit) : Verdict :=
  if h.kind = .enrolBlock then enrolVerdict s.ceiling (blockArgs h.payload h.enrolled) kit
  else commandVerdict s h.kind h.payload kit

/-- What a grace of this walk makes of a record (R62, R63). -/
def graceMakes (dh c : Nat) (w : Walk) : Kit → Option Kit
  | .enrolled r =>
    if qualifies dh w.number w.scope (.enrolled r) then some (.enrolled (gracedRec dh c w.hours w.number r).1) else none
  | _ => none

/-- What the handler's request makes of a record (R53, R137). -/
def handlerMakes (dh : Nat) (q : HandlerReq) : Kit → Option Kit
  | .enrolled r =>
    match q with
    | .completeMove _ => if r.moveIssue.isSome then some (.enrolled (completedRec r)) else none
    | .tamperHold _ => if r.active then some (.enrolled (withdrawnRec dh false r)) else none
  | _ => none

theorem requestMakes_link {s : State} {h : Hand} {j : Nat} (hh : s.link.hand = some h) (hj : h.target = some j) :
    s.requestMakes .link = Verdict.made (handVerdict s h (s.kit j)) := by
  have hkit : (if h.kind = .enrolBlock then
      enrolVerdict s.ceiling (blockArgs h.payload h.enrolled) (s.kit (kitArg h.payload + h.enrolled))
      else commandVerdict s h.kind h.payload (s.kit (kitArg h.payload))) = handVerdict s h (s.kit j) := by
    unfold Hand.target at hj
    split at hj
    · cases hj
    · rw [handVerdict]
      split at hj <;> cases hj
      · rename_i hb; rw [if_pos hb, if_pos hb]
      · rename_i hb; rw [if_neg hb, if_neg hb]
  rw [← hkit]
  show s.link.hand.bind _ = _
  rw [hh, Option.bind_some]
  generalize (if h.kind = .enrolBlock then _ else _) = verdict
  cases verdict <;> rfl

theorem requestMakes_walker {s : State} {w : Walk} (hw : s.walk = some w) :
    s.requestMakes .walker = graceMakes s.clock.dh s.ceiling w (s.kit w.next) := by
  show s.walk.bind _ = _
  rw [hw]
  rfl

theorem requestMakes_handler {s : State} {q : HandlerReq} {second : Option HandlerReq} (hq : s.handler = .stalled q second) :
    s.requestMakes .handler = handlerMakes s.clock.dh q (s.kit q.kit) := by
  cases q with
  | completeMove k =>
    simp only [State.requestMakes, hq, HandlerReq.kit]
    cases s.kit k <;> rfl
  | tamperHold k =>
    simp only [State.requestMakes, hq, HandlerReq.kit]
    cases s.kit k <;> rfl

theorem handVerdict_withRun (s : State) (h : Hand) (m : Nat) (b : Bool) (kit : Kit) :
    ∃ m' b', handVerdict s h (Kit.withRun m b kit) = Verdict.onKit (Kit.withRun m' b') (handVerdict s h kit) := by
  unfold handVerdict
  split
  · exact ⟨0, false, enrolVerdict_withRun ..⟩
  · exact commandVerdict_withRun ..

theorem graceMakes_withRun (dh c : Nat) (w : Walk) (m : Nat) (b : Bool) (kit : Kit) :
    graceMakes dh c w (Kit.withRun m b kit) = (graceMakes dh c w kit).map (Kit.withRun m b) := by
  cases kit with
  | enrolled r =>
    have hgraced : Kit.enrolled (gracedRec dh c w.hours w.number { r with missed := m, silentReported := b }).1 =
        Kit.withRun m b (.enrolled (gracedRec dh c w.hours w.number r).1) := by
      unfold gracedRec
      dsimp only
      split <;> rfl
    simp only [graceMakes, Kit.withRun, hgraced, apply_ite (Option.map _)]
    rfl
  | _ => rfl

theorem handlerMakes_withRun (dh : Nat) (q : HandlerReq) (m : Nat) (b : Bool) (kit : Kit) :
    handlerMakes dh q (Kit.withRun m b kit) = (handlerMakes dh q kit).map (Kit.withRun m b) := by
  cases kit with
  | enrolled r =>
    cases q <;> simp only [handlerMakes, Kit.withRun, apply_ite (Option.map _)] <;> rfl
  | _ => rfl

/-! ### A request that waits on while others are served -/

/-- A requester's request stands: the command in hand, but for the writes it waits for, the walk, or the handler's request. -/
def SameRequest (s t : State) : Requester → Prop
  | .link => ∀ h, s.link.hand = some h → h.reckoned = false → ∃ awaits, t.link.hand = some { h with awaits := awaits }
  | .walker => t.walk = s.walk
  | .handler => t.handler = s.handler

theorem hand_of_wants {s : State} {j : Nat} (h : s.wants .link = some j) :
    ∃ c, s.link.hand = some c ∧ c.target = some j ∧ c.reckoned = false := by
  obtain ⟨c, hc, hj⟩ := Option.bind_eq_some_iff.1 h
  refine ⟨c, hc, hj, Bool.eq_false_iff.2 fun hr => ?_⟩
  rw [Hand.target, if_pos hr] at hj
  cases hj

theorem walk_of_wants {s : State} {j : Nat} (h : s.wants .walker = some j) :
    ∃ w, s.walk = some w ∧ w.inHand = true ∧ w.next = j := by
  obtain ⟨w, hw, hj⟩ := Option.bind_eq_some_iff.1 h
  split at hj
  · rename_i hi; cases hj; exact ⟨w, hw, hi, rfl⟩
  · cases hj

theorem handler_of_wants {s : State} {j : Nat} (h : s.wants .handler = some j) :
    ∃ q second, s.handler = .stalled q second ∧ q.kit = j := by
  cases hq : s.handler with
  | idle => rw [State.wants, hq] at h; cases h
  | stalled q second => rw [State.wants, hq] at h; cases h; exact ⟨q, second, rfl, rfl⟩

/-- A request stands from one state to another, with the records, the clock and the settings it is reckoned against, but for
missed runs and SILENT flags that moved. -/
structure Stands (q : Requester) (s t : State) : Prop where
  same     : SameRequest s t q
  runs     : RunsMoved s t
  clock    : t.clock = s.clock
  settings : t.settings = s.settings

theorem Stands.trans {q : Requester} {s t u : State} (h : Stands q s t) (h' : Stands q t u) : Stands q s u := by
  refine ⟨?_, h.runs.trans h'.runs, h'.clock.trans h.clock, h'.settings.trans h.settings⟩
  cases q with
  | link =>
    intro c hc hr
    obtain ⟨awaits, ht⟩ := h.same c hc hr
    obtain ⟨awaits', hu⟩ := h'.same { c with awaits := awaits } ht hr
    exact ⟨awaits', hu⟩
  | walker => exact Eq.trans (b := t.walk) h'.same h.same
  | handler => exact Eq.trans (b := t.handler) h'.same h.same

/-- A request that stands is for the same index, and makes the same of the record but for what moved. -/
theorem Stands.asks {s t : State} {q : Requester} {j : Nat} (hstands : Stands q s t) (hw : s.wants q = some j) :
    t.wants q = some j ∧ ∃ m b, t.requestMakes q = (s.requestMakes q).map (Kit.withRun m b) := by
  obtain ⟨hq, hruns, hc, hs⟩ := hstands
  have hceiling : t.ceiling = s.ceiling := by rw [State.ceiling, State.ceiling, hc, hs]
  cases q with
  | link =>
    obtain ⟨h, hh, hj, hr⟩ := hand_of_wants hw
    obtain ⟨awaits, ht⟩ := hq h hh hr
    obtain ⟨m, b, hk⟩ := hruns j
    obtain ⟨m', b', hv⟩ := handVerdict_withRun s h m b (s.kit j)
    have hverdict : handVerdict t { h with awaits := awaits } (t.kit j) = handVerdict s h (Kit.withRun m b (s.kit j)) := by
      rw [hk]
      simp only [handVerdict, hceiling, commandVerdict_congr hc hs]
    refine ⟨?_, m', b', ?_⟩
    · rw [State.wants, ht]; exact hj
    · rw [requestMakes_link ht hj, hverdict, hv, made_onKit, requestMakes_link hh hj]
  | walker =>
    obtain ⟨w, hwalk, hi, -⟩ := walk_of_wants hw
    obtain ⟨m, b, hk⟩ := hruns w.next
    have ht : t.walk = some w := hq.trans hwalk
    refine ⟨(wants_walker ht hi).trans ((wants_walker hwalk hi).symm.trans hw), m, b, ?_⟩
    rw [requestMakes_walker ht, requestMakes_walker hwalk, hk, hceiling, hc, graceMakes_withRun]
  | handler =>
    obtain ⟨q, second, hh, -⟩ := handler_of_wants hw
    obtain ⟨m, b, hk⟩ := hruns q.kit
    have ht : t.handler = .stalled q second := hq.trans hh
    refine ⟨?_, m, b, ?_⟩
    · rw [← hw]; simp only [State.wants, ht, hh]
    · rw [requestMakes_handler ht, requestMakes_handler hh, hk, hc, handlerMakes_withRun]

end Sys2Proof.Proofs
end

section
/-! SUPPORT. The reckoning of one waiting request: the record it makes applied and its index in the queue, or the request passed
over, with what the other requesters wait for left alone (R41, R53, R63, R124, R137). -/

namespace Sys2Proof.Proofs

open Sys2Proof Sys2Proof.Machine Sys2Proof.Laws

/-! ### What the others wait for -/

/-- What the other requesters wait for is left alone. -/
structure OthersKept (q : Requester) (s t : State) : Prop where
  hand    : q ≠ .link → t.link.hand = s.link.hand
  walk    : q ≠ .walker → t.walk = s.walk
  handler : q ≠ .handler → t.handler = s.handler

theorem OthersKept.sameRequest {q q' : Requester} {s t : State} (h : OthersKept q s t) (hne : q' ≠ q) : SameRequest s t q' := by
  cases q' with
  | link => exact fun c hc _ => ⟨c.awaits, (h.hand hne.symm).trans hc⟩
  | walker => exact h.walk hne.symm
  | handler => exact h.handler hne.symm

theorem OthersKept.wants {q q' : Requester} {s t : State} (h : OthersKept q s t) (hne : q' ≠ q) : t.wants q' = s.wants q' := by
  cases q' with
  | link => rw [State.wants, State.wants, h.hand hne.symm]
  | walker => rw [State.wants, State.wants, h.walk hne.symm]
  | handler => simp only [State.wants, h.handler hne.symm]

/-- The reply of the command in hand changes the link only. -/
theorem settleHand_fields (s : State) : s.settleHand = { s with link := s.settleHand.link } := by
  obtain h | ⟨c, -, -, -, -, h⟩ := settleHand_cases s
  · rw [h]
  · rw [h]; rfl

theorem othersKept_reckonLink (s : State) : OthersKept .link s s.reckonLink := by
  have hkept : s.reckonLink.walk = s.walk ∧ s.reckonLink.handler = s.handler := by
    unfold State.reckonLink
    split
    · exact ⟨rfl, rfl⟩
    · split
      · exact ⟨rfl, rfl⟩
      · split
        · unfold State.reckonBlock
          dsimp only
          split
          · rw [settleHand_fields]; exact ⟨rfl, rfl⟩
          · exact ⟨rfl, rfl⟩
        · dsimp only
          split <;> exact ⟨rfl, rfl⟩
  exact ⟨fun h => absurd rfl h, fun _ => hkept.1, fun _ => hkept.2⟩

theorem othersKept_reckonWalker (s : State) : OthersKept .walker s s.reckonWalker := by
  have hfinish : ∀ u : State, u.handler = s.handler → ∀ w changed, (u.finishIndex w changed).handler = s.handler :=
    fun u hu w changed => by rw [finishIndex_eq, indexFinished_fields]; exact hu
  refine ⟨fun _ => (repliesKept_reckonWalker s).hand, fun h => absurd rfl h, fun _ => ?_⟩
  unfold State.reckonWalker
  split
  · rfl
  · split
    · split
      · split
        · exact hfinish (s.applyRecord _ _) rfl _ _
        · exact hfinish _ rfl _ _
      · exact hfinish _ rfl _ _
    · rfl

theorem reckonHandler_eq {s : State} {q : HandlerReq} {second : Option HandlerReq} (h : s.handler = .stalled q second) :
    s.reckonHandler = State.requestDone second (State.reckonRequest q s) := by
  rw [reckonHandler_stalled h]
  cases second <;> rfl

theorem walk_reckonRequest (q : HandlerReq) (s : State) : (State.reckonRequest q s).walk = s.walk := by
  cases q with
  | completeMove k =>
    show (s.reckonMove k).walk = _
    unfold State.reckonMove
    split
    · split <;> rfl
    · rfl
  | tamperHold k =>
    show (s.reckonTamper k).walk = _
    unfold State.reckonTamper
    split
    · split <;> rfl
    · rfl

theorem othersKept_reckonHandler (s : State) : OthersKept .handler s s.reckonHandler := by
  refine ⟨fun _ => (repliesKept_reckonHandler s).hand, fun _ => ?_, fun h => absurd rfl h⟩
  cases hq : s.handler with
  | idle => simp only [State.reckonHandler, hq]
  | stalled q second => rw [reckonHandler_eq hq, (requestDone_spec second _).walk, walk_reckonRequest]

theorem othersKept_serve (q : Requester) (s : State) : OthersKept q s (s.serve q) := by
  cases q with
  | link => exact othersKept_reckonLink s
  | walker => exact othersKept_reckonWalker s
  | handler => exact othersKept_reckonHandler s

/-! ### A request that takes its room -/

/-- The record was applied: it is in its place but for missed runs that moved, and its index is in the queue. -/
structure Took (s t : State) (j : Nat) (kit : Kit) : Prop where
  runs  : RunsMoved (s.applyRecord j kit) t
  store : t.store = (s.applyRecord j kit).store

theorem Took.of_roster {s t : State} {j : Nat} {kit : Kit} (hr : t.roster = (s.applyRecord j kit).roster)
    (hs : t.store = (s.applyRecord j kit).store) : Took s t j kit := ⟨.of_kits (kit_congr hr), hs⟩

theorem took_reckonLink {s : State} {j : Nat} {kit : Kit} (hw : s.wants .link = some j)
    (hm : s.requestMakes .link = some kit) : Took s s.reckonLink j kit := by
  obtain ⟨h, hh, hj, hr⟩ := hand_of_wants hw
  rw [requestMakes_link hh hj] at hm
  obtain ⟨st, content, hv⟩ := made_eq_some hm
  by_cases hb : h.kind = .enrolBlock
  · rw [target_of_block hr hb] at hj
    cases hj
    rw [handVerdict, if_pos hb] at hv
    rw [reckonLink_block hh hr hb, reckonBlock_enrols hv]
    exact .of_roster rfl rfl
  · rw [target_of_hand hr hb] at hj
    cases hj
    rw [handVerdict, if_neg hb] at hv
    obtain ⟨_, _, hv', -⟩ | ⟨_, _, _, hv', he⟩ := reckonLink_cases hh hr hb <;> rw [hv] at hv' <;> cases hv'
    rw [he]
    exact .of_roster rfl rfl

theorem took_reckonWalker {s : State} {j : Nat} {kit : Kit} (hw : s.wants .walker = some j)
    (hm : s.requestMakes .walker = some kit) : Took s s.reckonWalker j kit := by
  obtain ⟨w, hwalk, hi, rfl⟩ := walk_of_wants hw
  rw [requestMakes_walker hwalk] at hm
  cases hk : s.kit w.next with
  | enrolled r =>
    rw [hk, graceMakes] at hm
    split at hm
    · rename_i hq
      cases hm
      rw [reckonWalker_grants hwalk hi hk hq, State.graceGiven]
      exact .of_roster (indexFinished_roster ..) (indexFinished_store ..)
    · cases hm
  | free => rw [hk] at hm; cases hm
  | damaged => rw [hk] at hm; cases hm

/-- The handler's request makes its record, and a notice after it. -/
theorem took_reckonRequest {s : State} {q : HandlerReq} {kit : Kit} (hm : handlerMakes s.clock.dh q (s.kit q.kit) = some kit) :
    Took s (State.reckonRequest q s) q.kit kit := by
  cases hk : s.kit q.kit with
  | enrolled r =>
    rw [hk] at hm
    cases q with
    | completeMove k =>
      rw [handlerMakes] at hm
      split at hm
      · rename_i hmove
        obtain ⟨mi, hmi⟩ := Option.isSome_iff_exists.1 hmove
        cases hm
        have hk : s.kit k = .enrolled r := hk
        have hreckon : s.reckonMove k =
            (s.applyRecord k (.enrolled (completedRec r))).post (.moved r.listen r.ordered mi) (some k) := by
          simp only [State.reckonMove, hk, hmi]
        show Took s (s.reckonMove k) k _
        rw [hreckon]
        exact .of_roster rfl rfl
      · cases hm
    | tamperHold k =>
      rw [handlerMakes] at hm
      split at hm
      · rename_i hactive
        cases hm
        show Took s (s.reckonTamper k) k _
        rw [reckonTamper_active (k := k) hk (by simpa [KitRec.active] using hactive)]
        exact .of_roster rfl rfl
      · cases hm
  | free => rw [hk] at hm; cases hm
  | damaged => rw [hk] at hm; cases hm

theorem took_reckonHandler {s : State} {j : Nat} {kit : Kit} (hw : s.wants .handler = some j)
    (hm : s.requestMakes .handler = some kit) : Took s s.reckonHandler j kit := by
  obtain ⟨q, second, hq, rfl⟩ := handler_of_wants hw
  rw [requestMakes_handler hq] at hm
  have htook := took_reckonRequest hm
  have hdone := requestDone_spec second (State.reckonRequest q s)
  rw [reckonHandler_eq hq]
  exact ⟨htook.runs.trans hdone.runs.kits, hdone.store.trans htook.store⟩

/-- A request that makes a record applies it (R24, R41). -/
theorem took_serve {s : State} {q : Requester} {j : Nat} {kit : Kit} (hw : s.wants q = some j)
    (hm : s.requestMakes q = some kit) : Took s (s.serve q) j kit := by
  cases q with
  | link => exact took_reckonLink hw hm
  | walker => exact took_reckonWalker hw hm
  | handler => exact took_reckonHandler hw hm

/-! ### A request that leaves its room -/

/-- The request was passed over or refused: no index joined the queue, and the requester waits no more. -/
structure Passed (q : Requester) (s t : State) : Prop where
  runs  : RunsMoved s t
  store : t.store = s.store
  wants : t.wants q = none

theorem passed_reckonLink {s : State} {j : Nat} (hw : s.wants .link = some j) (hm : s.requestMakes .link = none) :
    Passed .link s s.reckonLink := by
  obtain ⟨h, hh, hj, hr⟩ := hand_of_wants hw
  rw [requestMakes_link hh hj] at hm
  obtain ⟨st, content, hv⟩ := made_eq_none hm
  by_cases hb : h.kind = .enrolBlock
  · rw [target_of_block hr hb] at hj
    cases hj
    rw [handVerdict, if_pos hb] at hv
    rw [reckonLink_block hh hr hb, reckonBlock_stops hv]
    obtain he | ⟨c, -, -, -, -, he⟩ :=
      settleHand_cases (s.setHand { h with reckoned := true, status := st, content := content }) <;> rw [he]
    · exact ⟨.of_kits fun _ => rfl, rfl, rfl⟩
    · exact ⟨.of_kits fun _ => rfl, rfl, rfl⟩
  · rw [target_of_hand hr hb] at hj
    cases hj
    rw [handVerdict, if_neg hb] at hv
    obtain ⟨_, _, hv', he⟩ | ⟨_, _, _, hv', -⟩ := reckonLink_cases hh hr hb <;> rw [hv] at hv' <;> cases hv'
    rw [he]
    exact ⟨.of_kits fun _ => rfl, rfl, rfl⟩

theorem passed_reckonWalker {s : State} {j : Nat} (hw : s.wants .walker = some j) (hm : s.requestMakes .walker = none) :
    Passed .walker s s.reckonWalker := by
  obtain ⟨w, hwalk, hi, rfl⟩ := walk_of_wants hw
  rw [requestMakes_walker hwalk] at hm
  have hpass : ∀ r, s.kit w.next = .enrolled r → qualifies s.clock.dh w.number w.scope (.enrolled r) = false := fun r hk => by
    rw [hk, graceMakes] at hm
    exact Bool.eq_false_iff.2 fun hq => by rw [if_pos hq] at hm; cases hm
  rw [reckonWalker_passes hwalk hi hpass]
  refine ⟨.of_kits (kit_congr (indexFinished_roster ..)), indexFinished_store .., ?_⟩
  unfold State.indexFinished
  split <;> rfl

theorem reckonRequest_passes {s : State} {q : HandlerReq} (hm : handlerMakes s.clock.dh q (s.kit q.kit) = none) :
    State.reckonRequest q s = s := by
  cases q with
  | completeMove k =>
    show s.reckonMove k = s
    unfold State.reckonMove
    split
    · rename_i r hk
      split
      · rename_i mi hmi
        have hk : s.kit (HandlerReq.completeMove k).kit = .enrolled r := hk
        rw [hk, handlerMakes, hmi] at hm
        cases hm
      · rfl
    · rfl
  | tamperHold k =>
    refine reckonTamper_passes fun r hk hr => ?_
    have hk : s.kit (HandlerReq.tamperHold k).kit = .enrolled r := hk
    rw [hk, handlerMakes, if_pos (by simp [KitRec.active, hr])] at hm
    cases hm

theorem passed_reckonHandler {s : State} {j : Nat} (hw : s.wants .handler = some j) (hm : s.requestMakes .handler = none)
    (hone : ∀ first second, s.handler ≠ .stalled first (some second)) : Passed .handler s s.reckonHandler := by
  obtain ⟨q, second, hq, rfl⟩ := handler_of_wants hw
  rw [requestMakes_handler hq] at hm
  cases second with
  | some q' => exact absurd hq (hone q q')
  | none =>
    have hdone := requestDone_spec none s
    rw [reckonHandler_eq hq, reckonRequest_passes hm]
    refine ⟨hdone.runs.kits, hdone.store, ?_⟩
    simp only [State.wants, (hdone.finished rfl).1]

/-- A request that makes no record is passed over or answered (R41, R53, R63, R137). -/
theorem passed_serve {s : State} {q : Requester} {j : Nat} (hw : s.wants q = some j) (hm : s.requestMakes q = none)
    (hone : ∀ first second, s.handler ≠ .stalled first (some second)) : Passed q s (s.serve q) := by
  cases q with
  | link => exact passed_reckonLink hw hm
  | walker => exact passed_reckonWalker hw hm
  | handler => exact passed_reckonHandler hw hm hone

end Sys2Proof.Proofs
end

section
/-! PROOFS. The verified record write: its image in the memory, the write that starts next, and the room its start gives out (R41,
R144, R146 to R148, R152). -/

namespace Sys2Proof.Proofs

open Sys2Proof Sys2Proof.Machine Sys2Proof.Laws

/-! ### The first requester that waits (R146) -/

theorem firstWaiting_eq (s : State) : s.firstWaiting = s.firstFrom s.store.rotation := by
  have hwaits : (fun q => (s.wants q).isSome) = fun q => decide (s.wants q ≠ none) :=
    funext fun q => by cases s.wants q <;> rfl
  simp only [State.firstWaiting, State.firstFrom, hwaits]
  cases s.store.rotation <;> rfl

theorem firstFrom_congr {s t : State} (h : ∀ q, t.wants q = s.wants q) (first : Requester) :
    t.firstFrom first = s.firstFrom first := by
  simp only [State.firstFrom, h]

theorem mem_circle (r q : Requester) : q ∈ [r, r.next, r.next.next] := by
  cases r <;> cases q <;> decide

theorem next_ne (q : Requester) : q.next ≠ q ∧ q.next.next ≠ q := by
  cases q <;> decide

/-- A requester that waits alone is the first, wherever the rotation pointer stands. -/
theorem firstWaiting_lone {s : State} {q : Requester} {j : Nat} (hq : s.wants q = some j)
    (h : ∀ q', q' ≠ q → s.wants q' = none) : s.firstWaiting = some q := by
  cases hf : s.firstWaiting with
  | none =>
    have hnone := List.find?_eq_none.1 hf q (mem_circle _ q)
    rw [hq] at hnone
    exact absurd rfl hnone
  | some r =>
    have hr : (s.wants r).isSome = true := List.find?_some (p := fun q => (s.wants q).isSome) hf
    by_cases hne : r = q
    · rw [hne]
    · rw [h r hne] at hr; cases hr

/-! ### Room given to one requester (R146) -/

/-- The part with the rotation pointer past a requester. -/
def State.rotatedPast (q : Requester) (s : State) : State := s.onStore fun c => { c with rotation := q.next }

theorem giveRoom_first {s : State} {q : Requester} (hroom : s.store.queue.length < queueCapacity)
    (hq : s.firstWaiting = some q) (n : Nat) :
    s.giveRoom (n + 1) = (State.rotatedPast q (s.serveAccepted q)).giveRoom n := by
  rw [State.giveRoom, if_pos hroom, hq]
  rfl

theorem giveRoom_full {s : State} (h : s.store.queue.length = queueCapacity) (n : Nat) : s.giveRoom n = s := by
  cases n with
  | zero => rfl
  | succ n => rw [State.giveRoom, if_neg (by rw [h]; exact Nat.lt_irrefl _)]

/-- A requester took the room: its index is the last of the queue, its record is in place, every other record is stored as it
was, and the pointer is past it. -/
structure RoomTaken (s t : State) (rest : List Nat) (q : Requester) (j : Nat) (kit : Kit) : Prop where
  queue    : t.store.queue = rest ++ [j]
  rotation : t.store.rotation = q.next
  record   : kit.sameStored (t.kit j)
  others   : ∀ i, i ≠ j → (s.kit i).sameStored (t.kit i)

/-- The last free place goes to the first requester that waits, if its request, which stands since `s`, made a record there
(R146). -/
theorem roomTaken_giveRoom {s u : State} {rest : List Nat} {q : Requester} {j : Nat} {kit : Kit}
    (hstands : Stands q s u) (hw : s.wants q = some j) (hm : s.requestMakes q = some kit) (hqueue : u.store.queue = rest)
    (hroom : rest.length = 31) (hj : j ∉ rest) (hfirst : u.firstWaiting = some q)
    (hlone : ∀ q', q' ≠ q → u.wants q' ≠ some j) (n : Nat) : RoomTaken s (u.giveRoom (n + 1)) rest q j kit := by
  obtain ⟨hwu, m, b, hmu⟩ := hstands.asks hw
  rw [hm] at hmu
  subst hqueue
  have htook := took_serve hwu hmu
  have hothers := othersKept_serve q u
  have hserve : u.serveAccepted q = u.serve q := by
    obtain ⟨h1, h2⟩ := next_ne q
    refine serveAccepted_alone hwu ?_ ?_
    · rw [hothers.wants h1]; exact hlone _ h1
    · rw [hothers.wants h2]; exact hlone _ h2
  have hjoined : (u.serve q).store.queue = u.store.queue ++ [j] := by
    rw [htook.store, applyRecord_fields]
    exact if_neg hj
  have hfull : (State.rotatedPast q (u.serve q)).store.queue.length = queueCapacity := by
    show (u.serve q).store.queue.length = 32
    rw [hjoined, List.length_append, hroom]
    rfl
  rw [giveRoom_first (by rw [hroom]; decide) hfirst, hserve, giveRoom_full hfull]
  refine ⟨hjoined, rfl, ?_, fun i hi => ?_⟩
  · have hrecord := htook.runs.sameStored j
    rw [kit_applyRecord, if_pos rfl] at hrecord
    exact Kit.sameStored_trans (sameStored_withRun m b kit) hrecord
  · have hother := htook.runs.sameStored i
    rw [kit_applyRecord, if_neg hi] at hother
    exact Kit.sameStored_trans (hstands.runs.sameStored i) hother

/-- The room is left to whoever waits next: the pointer is past the requester that took none, and what the others wait for
stands since `s`. -/
structure RoomLeft (s u : State) (rest : List Nat) (q : Requester) : Prop where
  queue    : u.store.queue = rest
  rotation : u.store.rotation = q.next
  runs     : RunsMoved s u
  done     : u.wants q = none
  wants    : ∀ q', q' ≠ q → u.wants q' = s.wants q'
  stands   : ∀ q', q' ≠ q → Stands q' s u

/-- The first requester that waits leaves the room, if its request, which stands since `s`, made no record there (R146). -/
theorem roomLeft_giveRoom {s u : State} {rest : List Nat} {q : Requester} {j : Nat} (hstands : ∀ q', Stands q' s u)
    (hwants : ∀ q', u.wants q' = s.wants q') (hw : s.wants q = some j) (hm : s.requestMakes q = none)
    (hone : ∀ first second, u.handler ≠ .stalled first (some second)) (hqueue : u.store.queue = rest)
    (hroom : rest.length < queueCapacity) (hfirst : u.firstWaiting = some q) (n : Nat) :
    ∃ t, u.giveRoom (n + 1) = t.giveRoom n ∧ RoomLeft s t rest q := by
  obtain ⟨hwu, m, b, hmu⟩ := (hstands q).asks hw
  rw [hm] at hmu
  have hpassed := passed_serve hwu hmu hone
  have hothers := othersKept_serve q u
  have hkept := kept_serve u q
  have hserve : u.serveAccepted q = u.serve q := by
    have hsame : (!u.store.queue.contains j && (u.serve q).store.queue.contains j) = false := by
      rw [hpassed.store, Bool.not_and_self]
    simp only [State.serveAccepted, hwu, hsame, Bool.false_eq_true, if_false]
  have hrotated : ∀ q', (State.rotatedPast q (u.serve q)).wants q' = (u.serve q).wants q' := fun q' => by cases q' <;> rfl
  refine ⟨_, giveRoom_first (by rw [hqueue]; exact hroom) hfirst n, ?_⟩
  rw [hserve]
  refine ⟨(congrArg Store.queue hpassed.store).trans hqueue, rfl, (hstands q).runs.trans hpassed.runs,
    (hrotated q).trans hpassed.wants, fun q' hne => (hrotated q').trans ((hothers.wants hne).trans (hwants q')),
    fun q' hne => ?_⟩
  have hserved : Stands q' u (u.serve q) := ⟨hothers.sameRequest hne, hpassed.runs, hkept.clock, hkept.settings⟩
  refine ((hstands q').trans hserved).trans ⟨?_, .of_kits fun _ => rfl, rfl, rfl⟩
  exact OthersKept.sameRequest (q := q) ⟨fun _ => rfl, fun _ => rfl, fun _ => rfl⟩ hne

/-- With nobody else waiting the room stays free. -/
theorem RoomLeft.nobody {s u : State} {rest : List Nat} {q : Requester} (h : RoomLeft s u rest q)
    (hnobody : ∀ q', q' ≠ q → s.wants q' = none) (n : Nat) : u.giveRoom n = u := by
  refine giveRoom_unwaited (fun q' => ?_) n
  by_cases hne : q' = q
  · rw [hne]; exact h.done
  · rw [h.wants q' hne]; exact hnobody q' hne

/-- The only other requester that waits takes the room that was left, if its request makes a record (R146). -/
theorem RoomLeft.next_takes {s u : State} {rest : List Nat} {q q' : Requester} {j : Nat} {kit : Kit}
    (h : RoomLeft s u rest q) (hne : q' ≠ q) (hw : s.wants q' = some j) (hm : s.requestMakes q' = some kit)
    (hroom : rest.length = 31) (hj : j ∉ rest) (hothers : ∀ q'', q'' ≠ q → q'' ≠ q' → s.wants q'' = none) (n : Nat) :
    RoomTaken s (u.giveRoom (n + 1)) rest q' j kit := by
  have hquiet : ∀ q'', q'' ≠ q' → u.wants q'' = none := fun q'' hne' => by
    by_cases hq : q'' = q
    · rw [hq]; exact h.done
    · rw [h.wants q'' hq]; exact hothers q'' hq hne'
  have hfirst := firstWaiting_lone ((h.wants q' hne).trans hw) hquiet
  exact roomTaken_giveRoom (h.stands q' hne) hw hm h.queue hroom hj hfirst (fun q'' hne' => by rw [hquiet q'' hne']; nofun) n

/-! ### The end of a verified record write (R148, R150) -/

/-- The part after a record write was verified, before the next write starts. -/
def State.recordDone (k : Nat) (image : List Byte) (s : State) : State :=
  (State.writeVerified k (s.memoryHolds (.kit k) image)).settleHand

theorem recordDone_fields (k : Nat) (image : List Byte) (s : State) : State.recordDone k image s =
    { s with
      store := { (s.memoryHolds (.kit k) image).store with mode := .idle }
      link := (State.recordDone k image s).link } := settleHand_fields _

/-- Both ends of an attempt that read back the image verify the write. -/
theorem exec_attempt_verified {s : State} {k : Nat} {image : List Byte} {n : Nat} {e : AttemptEnd} (hl : s.live = true)
    (hm : s.store.mode = .writing k image n) (hi : image.length = 19) (he : e = .good ∨ e = .readBack image) :
    exec (.storeAttemptComplete e) s = .next (State.recordDone k image s).startNextWrite := by
  obtain rfl | rfl := he
  · exact exec_record_verified hl hm hi
  · show execStoreAttemptComplete (.readBack image) s = _
    simp only [execStoreAttemptComplete, hl, if_true, State.attemptReadBack, hm, State.recordReadBack, fitTo_of_length hi]
    rfl

/-- A verified write leaves everything but the memory, the controller and the reply it completes. -/
theorem kept_recordDone (k : Nat) (image : List Byte) (s : State) :
    Kept (s.memoryHolds (.kit k) image) (State.recordDone k image s).startNextWrite := by
  have hidle : Kept (s.memoryHolds (.kit k) image) (State.writeVerified k (s.memoryHolds (.kit k) image)) :=
    ⟨rfl, rfl, rfl, rfl, rfl, rfl, rfl, rfl⟩
  exact (hidle.trans (kept_settleHand _)).trans (kept_startNextWrite _)

/-- The image stands in the memory after a verified write, and every other byte is as it was (R144, R148). -/
theorem memory_recordDone (k : Nat) (s : State) {image : List Byte} (hi : image.length = 19) :
    readRun (State.recordDone k image s).startNextWrite.store.cells (64 + 19 * k) 19 = image ∧
      s.memoryKeptBut (State.recordDone k image s).startNextWrite (64 + 19 * k) 19 := by
  have hcells := (kept_recordDone k image s).cells
  refine ⟨?_, fun x hx => ?_⟩ <;> rw [hcells]
  · show readRun (writeRun (64 + 19 * k) (fitTo 19 image) s.store.cells) (64 + 19 * k) 19 = image
    rw [fitTo_of_length hi, ← hi]
    exact readRun_writeRun _ _ _
  · exact memoryKeptBut_memoryHolds s (.kit k) image x hx

theorem wants_settleHand (s : State) (q : Requester) : s.settleHand.wants q = s.wants q := by
  obtain h | ⟨c, hc, hr, -, -, h⟩ := settleHand_cases s <;> rw [h]
  cases q with
  | link =>
    rw [State.wants, State.wants, hc]
    exact (if_pos hr).symm
  | walker => rfl
  | handler => rfl

/-- No request is made or withdrawn by a verified write. -/
theorem wants_recordDone (k : Nat) (image : List Byte) (s : State) (q : Requester) :
    (State.recordDone k image s).wants q = s.wants q := by
  rw [State.recordDone, wants_settleHand]
  cases q with
  | link =>
    show (s.link.hand.map _).bind Hand.target = s.link.hand.bind Hand.target
    cases s.link.hand <;> rfl
  | walker => rfl
  | handler => rfl

/-! ### The next write (R147) -/

/-- The part after a verified write with the head of the queue taken off, before its room is given out. -/
def State.nextTaken (k : Nat) (image : List Byte) (head : Nat) (rest : List Nat) (s : State) : State :=
  State.headTaken head rest (State.recordDone k image s)

theorem nextTaken_fields (k : Nat) (image : List Byte) (head : Nat) (rest : List Nat) (s : State) :
    State.nextTaken k image head rest s =
      { s with
        store := { (s.memoryHolds (.kit k) image).store with mode := .idle, queue := rest }
        link := (State.nextTaken k image head rest s).link } := by
  rw [State.nextTaken, recordDone_fields]
  rfl

theorem wants_nextTaken (k : Nat) (image : List Byte) (head : Nat) (rest : List Nat) (s : State) (q : Requester) :
    (State.nextTaken k image head rest s).wants q = s.wants q :=
  (wants_headTaken head rest _ q).trans (wants_recordDone k image s q)

/-- Every request stands while the next write takes its head. -/
theorem sameRequest_nextTaken (k : Nat) (image : List Byte) (head : Nat) (rest : List Nat) (s : State) (q : Requester) :
    SameRequest s (State.nextTaken k image head rest s) q := by
  cases q with
  | link =>
    intro h hh hr
    have hhand : (State.writeVerified k (s.memoryHolds (.kit k) image)).link.hand =
        some { h with awaits := h.awaits.filter fun a => a != (k, true) } := congrArg (Option.map _) hh
    obtain hs | ⟨c, hc, hr', -⟩ := settleHand_cases (State.writeVerified k (s.memoryHolds (.kit k) image))
    · refine ⟨(markStarted head { h with awaits := h.awaits.filter fun a => a != (k, true) }).awaits, ?_⟩
      show (State.recordDone k image s).link.hand.map (markStarted head) = _
      rw [State.recordDone, hs, hhand]
      rfl
    · rw [hhand] at hc
      cases hc
      rw [hr] at hr'
      cases hr'
  | walker => rw [SameRequest, nextTaken_fields]
  | handler => rw [SameRequest, nextTaken_fields]

theorem stands_nextTaken (k : Nat) (image : List Byte) (head : Nat) (rest : List Nat) (s : State) (q : Requester) :
    Stands q s (State.nextTaken k image head rest s) := by
  have h := nextTaken_fields k image head rest s
  exact ⟨sameRequest_nextTaken k image head rest s q, .of_kits (kit_congr (congrArg State.roster h :)),
    (congrArg State.clock h :), (congrArg State.settings h :)⟩

/-- An owed settings write goes first (R152). -/
theorem startNextWrite_owed {s : State} (hm : s.store.mode = .idle) (ho : s.store.owed = true) : s.startNextWrite =
    s.onStore fun c => { c with mode := .saving (settingsImage s.settings s.scheduler.pattern) 1 } := by
  simp only [State.startNextWrite, hm, ho, if_true]

/-- With no settings write owed the head of the queue is written next. -/
theorem startNextWrite_head {s : State} {head : Nat} {rest : List Nat} (hm : s.store.mode = .idle)
    (ho : s.store.owed = false) (hq : s.store.queue = head :: rest) : s.startNextWrite = s.startRecordWrite head rest := by
  simp only [State.startNextWrite, hm, ho, hq, Bool.false_eq_true, if_false]

theorem startRecordWrite_full {s : State} (h : queueCapacity ≤ s.store.queue.length) (head : Nat) (rest : List Nat) :
    s.startRecordWrite head rest = ((State.headTaken head rest s).giveRoom 4).onStore fun c =>
      { c with mode := .writing head (recordImage head (((State.headTaken head rest s).giveRoom 4).kit head)) 1 } := by
  rw [State.startRecordWrite, decide_eq_true h]
  rfl

theorem mode_startRecordWrite (s : State) (head : Nat) (rest : List Nat) :
    (s.startRecordWrite head rest).store.mode =
      .writing head (recordImage head ((s.startRecordWrite head rest).kit head)) 1 := by
  obtain ⟨u, -, hu⟩ := startRecordWrite_acts head rest s
  rw [hu]
  rfl

/-- The part as the next write takes its head: the queue, the records and the pointer, and that it may be asked as before. -/
theorem nextTaken_asked (k : Nat) (image : List Byte) (head : Nat) (rest : List Nat) (s : State) :
    let b := State.nextTaken k image head rest s
    b.store.queue = rest ∧ b.store.rotation = s.store.rotation ∧ b.roster = s.roster ∧ b.handler = s.handler ∧
      b.firstWaiting = s.firstFrom s.store.rotation := by
  have h := nextTaken_fields k image head rest s
  have hrotation : (State.nextTaken k image head rest s).store.rotation = s.store.rotation := by rw [h]; rfl
  refine ⟨rfl, hrotation, by rw [h], by rw [h], ?_⟩
  rw [firstWaiting_eq, hrotation, firstFrom_congr (wants_nextTaken k image head rest s)]

/-- Settles O27: the image stands in the memory, and then the next write starts, its room taken by the first requester whose
request makes a record. -/
theorem verifiedWriteLeavesTheImageInTheMemory : Obligations.VerifiedWriteLeavesTheImageInTheMemory := by
  refine ⟨fun s k image n e hl hm hi he => ?_, fun s k image n head rest hl hm hi ho hq => ?_⟩
  · have hkept := kept_recordDone k image s
    have hfields := recordDone_fields k image s
    have hmode : (State.recordDone k image s).store.mode = .idle := by rw [hfields]
    obtain ⟨hread, hrest⟩ := memory_recordDone k s hi
    refine ⟨_, exec_attempt_verified hl hm hi he, hread, hrest, congrArg Counters.storeRetries hkept.counters, hkept.op,
      fun ho hq => ?_, fun ho => ?_⟩
    · rw [startNextWrite_rests (.inr ⟨by rw [hfields]; exact hq, by rw [hfields]; exact ho⟩), hmode]
    · have howed : (State.recordDone k image s).store.owed = true := by rw [hfields]; exact ho
      rw [startNextWrite_owed hmode howed, hfields]
      exact ⟨rfl, rfl, rfl⟩
  · have hfields := recordDone_fields k image s
    have hqueue : (State.recordDone k image s).store.queue = head :: rest := by rw [hfields]; exact hq
    have hstart := startNextWrite_head (s := State.recordDone k image s) (by rw [hfields]) (by rw [hfields]; exact ho) hqueue
    refine ⟨_, exec_attempt_verified hl hm hi (.inl rfl), ?_, fun hquiet => ?_, fun hroom q j hfirst hw hj => ?_⟩ <;>
      rw [hstart]
    · exact mode_startRecordWrite _ head rest
    · rw [startRecordWrite_quiet]
      · obtain ⟨-, hrotation, hroster, -, -⟩ := nextTaken_asked k image head rest s
        exact ⟨rfl, hrotation, hroster⟩
      · refine hquiet.symm.imp (fun h q => (wants_recordDone k image s q).trans (h q)) fun h => ?_
        rw [hqueue, List.length_cons]
        exact Nat.succ_lt_succ h
    · obtain ⟨htaken, -, -, hhandler, hfirst'⟩ := nextTaken_asked k image head rest s
      rw [hfirst] at hfirst'
      have hwants := wants_nextTaken k image head rest s
      have hstands := stands_nextTaken k image head rest s
      rw [startRecordWrite_full (by rw [hqueue, List.length_cons, hroom])]
      refine ⟨fun kit hm hlone => ?_, fun hm hone => ?_⟩
      · have h := roomTaken_giveRoom (hstands q) hw hm htaken hroom hj hfirst'
          (fun q' hne => by rw [hwants]; exact hlone q' hne) 3
        exact ⟨h.queue, h.rotation, h.record, h.others⟩
      · obtain ⟨u, hgive, hleft⟩ := roomLeft_giveRoom hstands hwants hw hm (by rw [hhandler]; exact hone) htaken
          (by rw [hroom]; decide) hfirst' 3
        rw [← State.nextTaken, hgive]
        refine ⟨fun hnobody => ?_, fun q' j' kit hne hw' hm' hj' _ hothers => ?_⟩
        · rw [hleft.nobody hnobody]
          exact ⟨hleft.queue, hleft.rotation, hleft.runs.sameStored⟩
        · have h := hleft.next_takes hne hw' hm' hroom hj' hothers 2
          exact ⟨h.queue, h.rotation, h.record, h.others⟩

end Sys2Proof.Proofs
end

section
/-! PROOFS. GRACE_EXAMINE, which takes a record in hand or finishes its index, and the commands GRACE and GRACE ABORT, which
are answered at once (R60 to R62, R66, R67). -/

namespace Sys2Proof.Proofs

open Sys2Proof Sys2Proof.Machine Sys2Proof.Laws

/-! ### The record at the next index examined (R62, R66) -/

theorem exec_graceExamine {s : State} (h : s.live = true) : exec .graceExamine s = .next s.examineNext := by
  show execGraceExamine s = _
  rw [execGraceExamine, if_pos h]

/-- Only an enrolled kit can qualify, and it does by the tests of R62. -/
theorem qualifies_kit_iff (dh number scope : Nat) (kit : Kit) : qualifies dh number scope kit = true ↔
    ∃ r, kit = .enrolled r ∧ r.heldHours = none ∧ r.mark ≠ number ∧
      (scope = 0 ∨ (dh - scope ≤ r.horizon ∧ r.horizon ≤ dh)) := by
  cases kit with
  | enrolled r => simp only [qualifies_iff, Kit.enrolled.injEq, exists_eq_left']
  | free => simp [qualifies]
  | damaged => simp [qualifies]

theorem examineNext_takes {s : State} {w : Walk} (hw : s.walk = some w) (hi : w.inHand = false)
    (hq : qualifies s.clock.dh w.number w.scope (s.kit w.next) = true) :
    s.examineNext = { s with walk := some { w with inHand := true } } := by
  simp only [State.examineNext, hw, hi, hq, Bool.false_eq_true, if_false, if_true]
  rfl

theorem examineNext_passes {s : State} {w : Walk} (hw : s.walk = some w) (hi : w.inHand = false)
    (hq : qualifies s.clock.dh w.number w.scope (s.kit w.next) = false) :
    s.examineNext = State.indexFinished w w.changed s := by
  simp only [State.examineNext, hw, hi, hq, Bool.false_eq_true, if_false, finishIndex_eq, Bool.toNat_false, Nat.add_zero]

/-- Settles O24: the record is taken in hand or its index is finished, by the tests of R62. -/
theorem graceExaminePassesOverOrTakesInHand : Obligations.GraceExaminePassesOverOrTakesInHand := by
  intro s w hlive hw hi ha _ takes
  have hiff : _ ↔ takes := qualifies_kit_iff s.clock.dh w.number w.scope (s.kit w.next)
  have hpass (h : ¬ takes) := examineNext_passes hw hi (Bool.eq_false_iff.2 (mt hiff.1 h))
  rw [exec_graceExamine hlive]
  refine ⟨fun h => ?_, fun h hn => ?_, fun h hn => ?_⟩
  · rw [examineNext_takes hw hi (hiff.2 h)]
  · rw [hpass h, State.indexFinished, if_neg (by simp [ha]; omega), ← hi]
  · rw [hpass h, State.indexFinished, if_pos (.inr hn.ge), hn, ha]

/-! ### GRACE (R60) -/

/-- The RANGE test of a GRACE: a number of one byte is at most 255 as it stands. -/
theorem graceOutOfRange_iff (p : List Byte) : graceOutOfRange p = true ↔
    field p 0 1 = 0 ∨ field p 1 2 = 0 ∨ 720 < field p 1 2 ∨ 720 < field p 3 2 := by
  have hnumber := field_lt p 0 1
  simp only [graceOutOfRange, Bool.or_eq_true, decide_eq_true_eq]
  omega

theorem graceRule_range {p : List Byte} (h : graceOutOfRange p = true) (tag : Byte) (s : State) :
    graceRule tag p s = s.answerNow .grace tag p .range [] := if_pos h

theorem graceRule_busy {s : State} {w : Walk} {p : List Byte} (h : ¬ graceOutOfRange p = true) (hw : s.walk = some w)
    (tag : Byte) : graceRule tag p s = s.answerNow .grace tag p .walkBusy (be1 w.number) := by
  rw [graceRule, if_neg h, hw]

theorem graceRule_starts {s : State} {p : List Byte} (h : ¬ graceOutOfRange p = true) (hw : s.walk = none) (tag : Byte) :
    graceRule tag p s = { s.answerNow .grace tag p .ok (be1 (field p 0 1) ++ be3 s.clock.dh) with
      walk := some (startedWalk p) } := by
  rw [graceRule, if_neg h, hw]
  rfl

/-! ### GRACE ABORT (R67) -/

theorem graceAbortRule_noWalk {s : State} (hw : s.walk = none) (tag : Byte) (p : List Byte) :
    graceAbortRule tag p s = s.answerNow .graceAbort tag p .noWalk [] := by
  rw [graceAbortRule, hw]

theorem graceAbortRule_walk {s : State} {w : Walk} (hw : s.walk = some w) (tag : Byte) (p : List Byte) :
    graceAbortRule tag p s = (s.answerNow .graceAbort tag p .ok []).abortWalk := by
  rw [graceAbortRule, hw]

/-- A GRACE ABORT that finds a walk is answered OK, and then the walk is marked to end or ends. -/
theorem exec_graceAbort_walk {s : State} {w : Walk} {tag : Byte} {p : List Byte} (h : s.ready .graceAbort tag p = true)
    (hw : s.walk = some w) : exec (.graceAbort tag p) s = .next (s.answered .graceAbort tag p .ok []).abortWalk := by
  have hrun : exec (.graceAbort tag p) s = .next (graceAbortRule tag p (State.waiting s)) := exec_ready h
  rw [hrun, graceAbortRule_walk (s := State.waiting s) hw, answerNow_waiting]
  rfl

/-- Settles O26: GRACE by its two tests in their order, and GRACE ABORT by the walk it finds. -/
theorem graceAndGraceAbortAnswerAtOnce : Obligations.GraceAndGraceAbortAnswerAtOnce := by
  refine fun s tag p => ⟨fun h => ?_, fun h => ?_⟩
  · dsimp only
    split
    next hout => exact exec_answered h nofun (graceRule_range ((graceOutOfRange_iff p).2 hout) tag _)
    next hin =>
      have hin := mt (graceOutOfRange_iff p).1 hin
      cases hw : s.walk with
      | some w => exact exec_answered h nofun (graceRule_busy (s := State.waiting s) hin hw tag)
      | none =>
        have hrun : exec (.grace tag p) s = .next (graceRule tag p (State.waiting s)) := exec_ready h
        rw [hrun, graceRule_starts (s := State.waiting s) hin hw, answerNow_waiting]
        rfl
  · cases hw : s.walk with
    | none => exact exec_answered h nofun (graceAbortRule_noWalk (s := State.waiting s) hw tag p)
    | some w =>
      rw [exec_graceAbort_walk h hw]
      dsimp only
      split
      next hi => rw [abortWalk_inHand (s := s.answered .graceAbort tag p .ok []) hw hi]
      next hi =>
        rw [abortWalk_ends (s := s.answered .graceAbort tag p .ok []) hw (Bool.eq_false_iff.2 hi)]
        rfl

end Sys2Proof.Proofs
end

section
/-! PROOFS. CONFIGURE and LOAD PATTERN: the whole replaced, or RANGE with the lowest number that is bad (R78, R166, R167,
R177). -/

namespace Sys2Proof.Proofs

open Sys2Proof Sys2Proof.Machine Sys2Proof.Laws

/-! ### The lowest field out of its range (R166) -/

/-- Whether each of the eleven fields of a CONFIGURE lies in its range, in order. -/
def configureFields (p : List Byte) : List Bool :=
  decide (1 ≤ field p 0 2) :: fieldsInRange (settingsOfBytes p) (field p 13 1)

/-- The district code is two bytes wide, so that its range has no upper end to miss. -/
theorem firstBadField_eq (p : List Byte) : firstBadField p = ((configureFields p).findIdx? (!·)).map (· + 1) := by
  have hcode : decide (field p 0 2 ≤ 65535) = true := decide_eq_true (district_le p)
  rw [firstBadField, hcode, Bool.and_true, configureFields]

theorem firstBadField_none {p : List Byte} (h : (configureFields p).all id = true) : firstBadField p = none := by
  rw [firstBadField_eq, Option.map_eq_none_iff, List.findIdx?_eq_none_iff]
  intro b hb
  have hb : b = true := List.all_eq_true.1 h b hb
  rw [hb, Bool.not_true]

theorem firstBadField_some {p : List Byte} {i : Nat} (h : (configureFields p)[i]? = some false)
    (hlow : ∀ j, j < i → (configureFields p)[j]? = some true) : firstBadField p = some (i + 1) := by
  obtain ⟨hi, hbad⟩ := List.getElem?_eq_some_iff.1 h
  have hfirst : (configureFields p).findIdx? (!·) = some i := by
    refine List.findIdx?_eq_some_iff_getElem.2 ⟨hi, by rw [hbad]; rfl, fun j hj => ?_⟩
    obtain ⟨_, hgood⟩ := List.getElem?_eq_some_iff.1 (hlow j hj)
    rw [hgood, Bool.not_true]
    exact Bool.false_ne_true
  rw [firstBadField_eq, hfirst, Option.map_some]

theorem configureRule_range {p : List Byte} {n : Nat} (h : firstBadField p = some n) (tag : Byte) (s : State) :
    configureRule tag p s = s.answerNow .configure tag p .range (be1 n) := by
  rw [configureRule, h]

theorem configureRule_replaces {p : List Byte} (h : firstBadField p = none) (tag : Byte) (s : State) :
    configureRule tag p s = { s.answerNow .configure tag p .ok [] with settings := settingsOfBytes p } := by
  rw [configureRule, h]
  rfl

/-! ### The lowest step that names no class (R167) -/

theorem firstBadStep_none {p : List Byte} (h : ∀ b ∈ p, (stepOfByte b).isSome = true) : firstBadStep p = none :=
  List.findIdx?_eq_none_iff.2 fun b hb => Option.isNone_eq_false_iff.2 (h b hb)

theorem firstBadStep_some {p : List Byte} {i : Nat} {b : Byte} (h : p[i]? = some b) (hb : stepOfByte b = none)
    (hlow : ∀ j b', j < i → p[j]? = some b' → (stepOfByte b').isSome = true) : firstBadStep p = some i := by
  obtain ⟨hi, rfl⟩ := List.getElem?_eq_some_iff.1 h
  refine List.findIdx?_eq_some_iff_getElem.2 ⟨hi, Option.isNone_iff_eq_none.2 hb, fun j hj => ?_⟩
  rw [Option.isNone_eq_false_iff.2 (hlow j _ hj (List.getElem?_eq_getElem (hj.trans hi)))]
  exact Bool.false_ne_true

theorem loadPatternRule_range {p : List Byte} {n : Nat} (h : firstBadStep p = some n) (tag : Byte) (s : State) :
    loadPatternRule tag p s = s.answerNow .loadPattern tag p .range (be1 n) := by
  rw [loadPatternRule, h]

theorem loadPatternRule_replaces {p : List Byte} (h : firstBadStep p = none) (tag : Byte) (s : State) :
    loadPatternRule tag p s = { s.answerNow .loadPattern tag p .ok [] with
      scheduler := { s.scheduler with pattern := p.filterMap stepOfByte, pointer := 0 } } := by
  rw [loadPatternRule, h]
  rfl

/-- Settles O42: the first field, or step, that is bad, if there is one, decides what the rule does. -/
theorem configureAndLoadPatternReplaceTheWhole : Obligations.ConfigureAndLoadPatternReplaceTheWhole := by
  refine ⟨fun s tag p h => ⟨fun hall => ?_, fun i _ hbad hlow => ?_⟩,
    fun s tag p h => ⟨fun hall => ?_, fun i b hi hb hlow => ?_⟩⟩
  · have hrun : exec (.configure tag p) s = .next (configureRule tag p (State.waiting s)) := exec_ready h
    rw [hrun, configureRule_replaces (firstBadField_none hall), answerNow_waiting]
    rfl
  · exact exec_answered h nofun (configureRule_range (firstBadField_some hbad hlow) tag _)
  · have hnone := firstBadStep_none hall
    have hrun : exec (.loadPattern tag p) s = .next (loadPatternRule tag p (State.waiting s)) := exec_ready h
    rw [hrun, loadPatternRule_replaces hnone, answerNow_waiting]
    exact ⟨_, rfl, rfl, (length_patternOfBytes hnone).trans (length_of_ready h)⟩
  · exact exec_answered h nofun (loadPatternRule_range (firstBadStep_some hi hb hlow) tag _)

end Sys2Proof.Proofs
end

section
/-! PROOFS. MOVE_COMPLETION: the listen slot made the ordered slot or the request passed over, the frame finished with the rolls
that close then, and the write that may start (R73, R124, R137). -/

namespace Sys2Proof.Proofs

open Sys2Proof Sys2Proof.Machine Sys2Proof.Laws

/-! ### What the close of a roll posts (R128, R129) -/

/-- The notice is a SILENT or an UNREACHED. -/
def Notice.ofClose (n : Notice) : Prop :=
  (∃ missed heard, n.kind = .silent missed heard) ∨ ∃ issue sends missed, n.kind = .unreached issue sends missed

/-- Of the notices only those of closing rolls are new. -/
def ClosePosts (s t : State) : Prop := ∀ n ∈ t.link.notices, n ∈ s.link.notices ∨ Notice.ofClose n

theorem ClosePosts.refl (s : State) : ClosePosts s s := fun _ => .inl

theorem ClosePosts.trans {s t u : State} (h : ClosePosts s t) (h' : ClosePosts t u) : ClosePosts s u :=
  fun n hn => (h' n hn).elim (h n) .inr

/-- The notices after a post are those before and the one posted, or those before (R168). -/
theorem mem_notices_post {s : State} {kind : NoticeKind} {k : Option Nat} {n : Notice}
    (h : n ∈ (s.post kind k).link.notices) : n ∈ s.link.notices ∨ n.kind = kind := by
  rw [post_link] at h
  split at h
  · exact (List.mem_append.1 h).imp_right fun h => by rw [List.mem_singleton.1 h]
  · exact .inl h

theorem closePosts_silent_if (s : State) (c : Bool) (missed : Nat) (heard : Option Nat) (k : Option Nat) :
    ClosePosts s (if c then s.post (.silent missed heard) k else s) := by
  cases c with
  | true => exact fun n hn => (mem_notices_post hn).imp_right fun h => .inl ⟨missed, heard, h⟩
  | false => exact .refl s

theorem closePosts_unreached_if (s : State) (c : Bool) (issue : Issue) (sends missed : Nat) (k : Option Nat) :
    ClosePosts s (if c then s.post (.unreached issue sends missed) k else s) := by
  cases c with
  | true => exact fun n hn => (mem_notices_post hn).imp_right fun h => .inr ⟨issue, sends, missed, h⟩
  | false => exact .refl s

theorem closePosts_chargePosition (roll : Roll) (s : State) (p : Position) : ClosePosts s (s.chargePosition roll p) := by
  obtain h | ⟨r, -, -, h⟩ := chargePosition_cases roll s p <;> rw [h]
  · exact .refl s
  · have hput : ClosePosts s (s.putKit p.kit (.enrolled { r with
      missed := satSucc 15 r.missed, silentReported := r.silentReported || silentDue s.settings r })) := fun _ => .inl
    exact (hput.trans (closePosts_silent_if _ _ _ _ _)).trans (closePosts_unreached_if _ _ _ _ _ _)

theorem ClosePosts.foldl {β : Type} {f : State → β → State} (hf : ∀ s b, ClosePosts s (f s b)) (l : List β) (s : State) :
    ClosePosts s (l.foldl f s) := by
  induction l generalizing s with
  | nil => exact .refl s
  | cons b l ih => exact (hf s b).trans (ih (f s b))

theorem closePosts_closeRoll (s : State) (roll : Roll) : ClosePosts s (s.closeRoll roll) :=
  ClosePosts.foldl (closePosts_chargePosition roll) roll.positions s

/-- The frame's second request made, or the frame finished, posts nothing but what closing rolls report. -/
theorem closePosts_requestDone (second : Option HandlerReq) (s : State) : ClosePosts s (State.requestDone second s) := by
  cases second with
  | some q => exact .refl s
  | none =>
    show ClosePosts (State.frameDropped s) (State.frameDropped s).closeDone
    exact ClosePosts.foldl closePosts_closeRoll _ _

theorem Notice.ofClose.not_moved {n : Notice} (h : Notice.ofClose n) (old new : Nat) (mi : Issue) :
    n.kind ≠ .moved old new mi := by
  obtain ⟨_, _, h⟩ | ⟨_, _, _, h⟩ := h <;> rw [h] <;> nofun

/-! ### The move completed (R137) -/

/-- The part as the completion of this kit's move leaves it. -/
def State.moveCompleted (k : Nat) (r : KitRec) (mi : Issue) (s : State) : State :=
  (s.applyRecord k (.enrolled (completedRec r))).post (.moved r.listen r.ordered mi) (some k)

theorem reckonMove_completes {s : State} {k : Nat} {r : KitRec} {mi : Issue} (hk : s.kit k = .enrolled r)
    (hmi : r.moveIssue = some mi) : s.reckonMove k = State.moveCompleted k r mi s := by
  simp only [State.reckonMove, hk, hmi, State.moveCompleted]

theorem reckonMove_passes {s : State} {k : Nat} (h : ∀ r, s.kit k = .enrolled r → r.moveIssue = none) :
    s.reckonMove k = s := by
  refine reckonRequest_passes (q := .completeMove k) ?_
  show handlerMakes s.clock.dh (.completeMove k) (s.kit k) = none
  cases hk : s.kit k with
  | enrolled r => rw [handlerMakes, h r hk]; rfl
  | free => rfl
  | damaged => rfl

theorem kit_moveCompleted (k : Nat) (r : KitRec) (mi : Issue) (s : State) (j : Nat) :
    (State.moveCompleted k r mi s).kit j = if j = k then .enrolled (completedRec r) else s.kit j :=
  (kit_congr (post_roster _ _ _) j).trans (kit_applyRecord s k _ j)

/-- A completion moves the dirty queue in the store, and leaves the clock and the framer. -/
theorem moveCompleted_rest (k : Nat) (r : KitRec) (mi : Issue) (s : State) :
    (State.moveCompleted k r mi s).store =
        { s.store with queue := if k ∈ s.store.queue then s.store.queue else s.store.queue ++ [k] } ∧
      (State.moveCompleted k r mi s).clock = s.clock ∧ (State.moveCompleted k r mi s).framer = s.framer := by
  refine ⟨?_, rfl, rfl⟩
  rw [State.moveCompleted, post_store, applyRecord_fields]

/-- The MOVED of the completion joins the tail while there is room (R137, R168). -/
theorem notices_moveCompleted {s : State} (h : s.link.notices.length < 32) (k : Nat) (r : KitRec) (mi : Issue) :
    (State.moveCompleted k r mi s).link.notices = s.link.notices ++
      [{ kind := .moved r.listen r.ordered mi, dh := s.clock.dh, cycle := s.clock.cycle, kit := some k }] :=
  post_notices (s := s.applyRecord k (.enrolled (completedRec r))) h _ _

theorem lists_of_tablesCanonical {s : State} (h : s.tablesCanonical = true) : canonical [] s.scheduler.lists = true := by
  simp only [State.tablesCanonical, Bool.and_eq_true] at h
  obtain ⟨⟨⟨⟨-, hlists⟩, -⟩, -⟩, -⟩ := h
  exact hlists

theorem listed_moveCompleted {s : State} (hc : s.tablesCanonical = true) (k : Nat) (r : KitRec) (mi : Issue) :
    Listed k (State.moveCompleted k r mi s) :=
  (listed_putKit (lists_of_tablesCanonical hc) k (.enrolled (completedRec r))).congr rfl rfl

theorem queue_moveCompleted_short {s : State} (h : s.store.mode ≠ .idle ∨ s.store.queue = []) (k : Nat) (r : KitRec)
    (mi : Issue) : (State.moveCompleted k r mi s).store.mode ≠ .idle ∨
      (State.moveCompleted k r mi s).store.queue.length < queueCapacity := by
  rw [(moveCompleted_rest k r mi s).1]
  refine h.imp_right fun hq => ?_
  simp [hq, queueCapacity]

/-! ### The handler's request accepted alone (R124, R146) -/

/-- A handler whose completion is accepted while nobody else waits is reckoned, and the next write starts. -/
theorem exec_moveCompletion {s : State} {k : Nat} {second : Option HandlerReq} (hlive : s.live = true)
    (hs : s.handler = .stalled (.completeMove k) second) (hk : s.canAccept k = true) (hlink : s.wants .link = none)
    (hwalker : s.wants .walker = none) :
    exec .moveCompletion s = .next (State.requestDone second (s.reckonMove k)).startNextWrite := by
  have hwants : s.wants .handler = some k := by simp only [State.wants, hs, HandlerReq.kit]
  have hothers := othersKept_reckonHandler s
  have hserve : s.serveAccepted .handler = State.requestDone second (s.reckonMove k) := by
    refine (serveAccepted_alone hwants ?_ ?_).trans (reckonHandler_eq hs)
    · show s.reckonHandler.wants .link ≠ some k
      rw [hothers.wants (q' := .link) nofun, hlink]
      nofun
    · show s.reckonHandler.wants .walker ≠ some k
      rw [hothers.wants (q' := .walker) nofun, hwalker]
      nofun
  show execMoveCompletion s = _
  simp only [execMoveCompletion, hs, hlive, if_true, State.tryAccept, hwants, hk, hserve]

/-- A write that lets no request in leaves the records, the lists and the notices. -/
theorem startNextWrite_books {s : State} (h : s.store.mode ≠ .idle ∨ s.store.queue.length < queueCapacity) :
    s.startNextWrite.roster = s.roster ∧ s.startNextWrite.scheduler = s.scheduler ∧
      s.startNextWrite.link.notices = s.link.notices := by
  obtain ⟨⟨queue, mode, hand, ht⟩, -⟩ := nextStarted_short h
  rw [ht]
  exact ⟨rfl, rfl, rfl⟩

/-- The end of a request keeps a kit's places in the lists. -/
theorem Listed.requestDone {k : Nat} {s : State} (h : Listed k s) (second : Option HandlerReq) :
    Listed k (State.requestDone second s) := by
  cases second with
  | some q => exact h.congr rfl rfl
  | none => exact (receiptEnded_finishFrame s).listed k h

/-- The lists and the notices after the request of a frame and the write that may start then. -/
theorem requestEnded_books (second : Option HandlerReq) {s : State}
    (h : s.store.mode ≠ .idle ∨ s.store.queue.length < queueCapacity) :
    (∀ k, Listed k s → Listed k (State.requestDone second s).startNextWrite) ∧
      ClosePosts s (State.requestDone second s).startNextWrite := by
  rw [← (requestDone_spec second s).store] at h
  obtain ⟨hroster, hscheduler, hnotices⟩ := startNextWrite_books h
  refine ⟨fun k hk => (hk.requestDone second).congr hroster (by rw [hscheduler]), fun n hn => ?_⟩
  rw [hnotices] at hn
  exact closePosts_requestDone second s n hn

/-- Settles O22: the move completed or passed over, the request done, and the write that may start. -/
theorem moveCompletionMovesTheListenSlot : Obligations.MoveCompletionMovesTheListenSlot := by
  intro s k second hlive hs hk hlink hwalker hmode
  refine ⟨_, exec_moveCompletion hlive hs hk hlink hwalker, ?_⟩
  by_cases hpending : ∃ r mi, s.kit k = .enrolled r ∧ r.moveIssue = some mi
  · obtain ⟨r, mi, hkit, hmi⟩ := hpending
    rw [reckonMove_completes hkit hmi]
    have hshort := queue_moveCompleted_short hmode k r mi
    have hend := requestEnded second hshort
    obtain ⟨hlisted, -⟩ := requestEnded_books second hshort
    obtain ⟨hstore, hclock, hframer⟩ := moveCompleted_rest k r mi s
    obtain ⟨missed, silent, hk'⟩ := hend.runs.kits k
    rw [kit_moveCompleted, if_pos rfl] at hk'
    refine ⟨hframer ▸ hend.finished, hframer ▸ hend.made, fun j hj => ?_, hend.cells.trans (by rw [hstore]),
      hend.clock.trans hclock, fun r₁ mi₁ hkit₁ hmi₁ => ?_, fun h => ?_⟩
    · have hsame := hend.runs.sameStored j
      rwa [kit_moveCompleted, if_neg hj] at hsame
    · obtain rfl : r = r₁ := Kit.enrolled.inj (hkit.symm.trans hkit₁)
      obtain rfl : mi = mi₁ := Option.some.inj (hmi.symm.trans hmi₁)
      refine ⟨_, hk', rfl, rfl, rfl, rfl, rfl, rfl, rfl, rfl, rfl, rfl, rfl, rfl, rfl, rfl, rfl,
        hend.unsaved k (unsaved_of_mem (mem_queue_applyRecord s k _)),
        fun hc => (hlisted k (listed_moveCompleted hc k r mi)).places, fun hroom => ?_⟩
      exact notices_moveCompleted hroom k r mi ▸ hend.notices
    · exact absurd (hmi.symm.trans (h r hkit)) nofun
  · have hpass : ∀ r, s.kit k = .enrolled r → r.moveIssue = none := fun r hkit =>
      Option.eq_none_iff_forall_ne_some.2 fun mi hmi => hpending ⟨r, mi, hkit, hmi⟩
    rw [reckonMove_passes hpass]
    have hshort : s.store.mode ≠ .idle ∨ s.store.queue.length < queueCapacity :=
      hmode.imp_right fun hq => by rw [hq]; decide
    have hend := requestEnded second hshort
    obtain ⟨-, hposts⟩ := requestEnded_books second hshort
    refine ⟨hend.finished, hend.made, fun j _ => hend.runs.sameStored j, hend.cells, hend.clock, fun r mi hkit hmi => ?_,
      fun _ => ⟨hend.runs.sameStored k, ?_, fun n hn hnew => ((hposts n hn).resolve_left hnew).not_moved⟩⟩
    · exact absurd ((hpass r hkit).symm.trans hmi) nofun
    · have hstore := (requestDone_spec second s).store
      rw [queue_startNextWrite (by rw [hstore]; exact hmode), hstore]

end Sys2Proof.Proofs
end

section
/-! PROOFS. SLOT_START: the clock, the framer and the builder's act, and a slot start with no burst to send (R84, R97, R107). -/

namespace Sys2Proof.Proofs

open Sys2Proof Sys2Proof.Machine Sys2Proof.Laws

/-! ### The parts of a slot start -/

/-- The part at a slot start, before the builder acts: the clock names the slot that starts, and no roll is the slot's. -/
def State.slotOpened (s : State) : State :=
  (s.onClock Clock.atSlotStart).onBuilder fun q => { q with slotRoll := none }

/-- The part at a slot start, after the builder acted: the preparation for this slot is over, and the framer is to search the
reply window if the part is ON AIR with the uplink option on (R9, R107). -/
def State.slotUnderWay (s : State) : State :=
  { s with
    scheduler := { s.scheduler with
      preparedFor := if s.scheduler.preparedFor = some s.clock.slot then none else s.scheduler.preparedFor }
    framer := { s.framer with armed :=
      if s.link.op = .onAir ∧ s.settings.uplink = true then some (s.clock.slot, s.clock.absCycle) else none } }

theorem exec_slotStart {s : State} (h : s.timed = true) :
    exec .slotStart s = .next (State.slotUnderWay (State.slotOpened s).builderAtSlotStart) := by
  show execSlotStart s = _
  rw [execSlotStart, if_pos h]
  rfl

/-- The clock after a slot start in its usual order, with no tick due (R3). -/
theorem atSlotStart_boundary {c : Clock} (h : c.timer = .boundary) (hd : c.tickDue = false) :
    c.atSlotStart = { c with timer := .downlink } := by
  simp [Clock.atSlotStart, h, hd]

/-- A slot start that was taken first moves the clock itself (assumption 8). -/
theorem atSlotStart_early {c : Clock} (h : c.timer ≠ .boundary) : c.atSlotStart = { c.advance with timer := .early } :=
  if_neg h

/-! ### No burst to send (R84, R97) -/

/-- With no burst to send, the slot's unfinished preparation is missed, and otherwise the builder does nothing. -/
theorem slotOpened_idles {s : State}
    (h : ∀ b, s.builder.ready = some b → s.link.op ≠ .onAir ∨ b.slot ≠ s.clock.atSlotStart.slot) :
    ((∃ b, s.builder.preparing = some b ∧ b.slot = s.clock.atSlotStart.slot) ∧ (State.slotOpened s).builderAtSlotStart =
      ((State.slotOpened s).onBuilder fun q => { q with preparing := none }).raise .missedSlots) ∨
    ((∀ b, s.builder.preparing = some b → b.slot ≠ s.clock.atSlotStart.slot) ∧
      (State.slotOpened s).builderAtSlotStart = State.slotOpened s) := by
  obtain ⟨b, hready, hslot, hop, -⟩ | ⟨-, ⟨b, hb, hslot, he⟩ | ⟨hnone, he⟩⟩ :=
    builderAtSlotStart_cases (State.slotOpened s)
  · exact ((h b hready).elim (· hop) (· hslot)).elim
  · exact .inl ⟨⟨b, hb, hslot⟩, he⟩
  · exact .inr ⟨hnone, he⟩

/-- Settles O11: the builder misses the slot's preparation or does nothing, between the clock's move and the framer's. -/
theorem slotStartMissesAnUnfinishedPreparation : Obligations.SlotStartMissesAnUnfinishedPreparation := by
  intro s ht hready
  refine ⟨_, exec_slotStart ht, ?_⟩
  obtain ⟨⟨b, hb, hslot⟩, he⟩ | ⟨hnone, he⟩ := slotOpened_idles hready <;> rw [he]
  · exact ⟨rfl, atSlotStart_boundary, atSlotStart_early, rfl, fun _ _ _ => ⟨rfl, rfl⟩, fun h => absurd hslot (h b hb),
      rfl, rfl, rfl, rfl, rfl, rfl, rfl, rfl, rfl, rfl⟩
  · exact ⟨rfl, atSlotStart_boundary, atSlotStart_early, rfl, fun b hb hslot => absurd hslot (hnone b hb),
      fun _ => ⟨rfl, rfl⟩, rfl, rfl, rfl, rfl, rfl, rfl, rfl, rfl, rfl, rfl⟩

end Sys2Proof.Proofs
end

section
/-! SUPPORT. The count of a burst's entries at transmission, entry by entry: the records, the roll's positions, the notices and
AUDITS (R85 to R89, R102, R168, R172). -/

namespace Sys2Proof.Proofs

open Sys2Proof Sys2Proof.Machine Sys2Proof.Laws

/-! ### Acts that change the link only (R168, R172) -/

/-- AUDITS rises for an audit entry (R172). -/
def State.auditRaised (e : Entry) (s : State) : State := if e.audit then s.raise .audits else s

theorem postAll_link (ns : List (NoticeKind × Nat)) (s : State) :
    State.postAll ns s = s.onLink fun _ => (State.postAll ns s).link := by
  induction ns generalizing s with
  | nil => rfl
  | cons n ns ih => exact ih (s.post n.1 (some n.2))

theorem counters_postAll (ns : List (NoticeKind × Nat)) (s : State) :
    (State.postAll ns s).link.counters = s.link.counters := by
  induction ns generalizing s with
  | nil => rfl
  | cons n ns ih => exact (ih (s.post n.1 (some n.2))).trans (post_link_counters s _ _)

theorem auditRaised_link (e : Entry) (s : State) :
    State.auditRaised e s = s.onLink fun _ => (State.auditRaised e s).link := by
  unfold State.auditRaised
  split <;> rfl

theorem notices_auditRaised (e : Entry) (s : State) : (State.auditRaised e s).link.notices = s.link.notices := by
  unfold State.auditRaised
  split <;> rfl

/-! ### One entry (R86 to R89) -/

theorem afterCount_stale {e : Entry} {r : KitRec} (h : (Kit.enrolled r).countOutcome e = .stale) (g : Settings) (now : Nat)
    (hold : Bool) : r.afterCount g now hold e = r := by
  simp only [KitRec.afterCount, h]

theorem afterCount_other {e : Entry} {r : KitRec} (h : (Kit.enrolled r).countOutcome e = .other) (g : Settings) (now : Nat)
    (hold : Bool) : r.afterCount g now hold e = countedRec now r := by
  simp only [KitRec.afterCount, h]
  rfl

theorem afterCount_pendingSend {e : Entry} {r : KitRec} (h : (Kit.enrolled r).countOutcome e = .pendingSend) (g : Settings)
    (now : Nat) (hold : Bool) : r.afterCount g now hold e =
      if settlesByBudget g hold r then { countedRec now r with
        sends := sendsAfter g hold r, confirmed := some r.issue, settled := true, notify := false }
      else { countedRec now r with sends := sendsAfter g hold r } := by
  simp only [KitRec.afterCount, h, settlesByBudget, sendsAfter_eq, KitRec.replies, Bool.and_eq_true]
  rfl

/-- Settling posts at most the DELIVERED (R89). -/
theorem settleKit_eq (s : State) (k : Nat) (r : KitRec) (confirmed : Bool) : s.settleKit k r confirmed =
    State.postAll (if r.notify then [(.delivered r.issue confirmed, k)] else [])
      (s.putKit k (.enrolled { r with confirmed := some r.issue, settled := true, notify := false })) := by
  unfold State.settleKit
  cases r.notify <;> rfl

theorem countOutcome_cases (e : Entry) (r : KitRec) :
    (r.issue ≠ e.issue ∧ (Kit.enrolled r).countOutcome e = .stale) ∨
    (r.issue = e.issue ∧ (r.settled || e.audit) = true ∧ (Kit.enrolled r).countOutcome e = .other) ∨
    (r.issue = e.issue ∧ r.settled = false ∧ e.audit = false ∧ (Kit.enrolled r).countOutcome e = .pendingSend) := by
  by_cases hi : r.issue = e.issue
  · by_cases hc : (r.settled || e.audit) = true
    · exact .inr (.inl ⟨hi, hc, by simp [Kit.countOutcome, hi, hc]⟩)
    · obtain ⟨hs, ha⟩ := Bool.or_eq_false_iff.1 (Bool.eq_false_iff.2 hc)
      exact .inr (.inr ⟨hi, hs, ha, by simp [Kit.countOutcome, hi, hs, ha]⟩)
  · exact .inl ⟨hi, by simp [Kit.countOutcome, hi]⟩

/-- A counted entry of a kit that is settled, or that the audit fill chose, stamps the record and posts nothing (R87). -/
theorem countEntry_other {s : State} {e : Entry} {r : KitRec} (hk : s.kit e.kit = .enrolled r) (hi : r.issue = e.issue)
    (hc : (r.settled || e.audit) = true) (hold : Bool) :
    (s.countEntry hold e).1 = State.auditRaised e (s.putKit e.kit (.enrolled (countedRec s.clock.absCycle r))) := by
  simp only [State.countEntry, hk, hi, hc, if_true]
  rfl

/-- A counted pending send puts the record in its place and posts the DELIVERED of a kit that settles (R88, R89). -/
theorem countEntry_pendingSend {s : State} {e : Entry} {r : KitRec} (hk : s.kit e.kit = .enrolled r)
    (ho : (Kit.enrolled r).countOutcome e = .pendingSend) (hi : r.issue = e.issue) (hs : r.settled = false)
    (ha : e.audit = false) (hold : Bool) : (s.countEntry hold e).1 =
      State.postAll ((Kit.enrolled r).countNotices s.settings s.clock.absCycle hold e)
        (s.putKit e.kit (.enrolled (r.afterCount s.settings s.clock.absCycle hold e))) := by
  simp only [State.countEntry, hk, if_pos hi, hs, ha, Bool.or_self, Bool.false_eq_true, if_false, Kit.countNotices,
    afterCount_pendingSend ho, settleKit_eq]
  by_cases hb : settlesByBudget s.settings hold r = true
  · simp only [hb, if_true, Bool.not_false, Bool.true_and]
    rfl
  · simp only [hb, if_false, countedRec, hs, Bool.not_false, Bool.and_false, Bool.false_and, Bool.false_eq_true]
    rfl

/-- What the count of an entry does: nothing if it is stale; otherwise the record is put in its place, AUDITS is raised for an
audit, and the entry's notices are posted. -/
theorem countEntry_cases (hold : Bool) (e : Entry) (s : State) :
    ((s.kit e.kit).countOutcome e = .stale ∧ (s.countEntry hold e).1 = s) ∨
    ∃ r, s.kit e.kit = .enrolled r ∧ (s.kit e.kit).countOutcome e ≠ .stale ∧ (s.countEntry hold e).1 =
      State.postAll ((s.kit e.kit).countNotices s.settings s.clock.absCycle hold e) (State.auditRaised e
        (s.putKit e.kit (.enrolled (r.afterCount s.settings s.clock.absCycle hold e)))) := by
  cases hk : s.kit e.kit with
  | free => exact .inl ⟨rfl, by simp only [State.countEntry, hk]⟩
  | damaged => exact .inl ⟨rfl, by simp only [State.countEntry, hk]⟩
  | enrolled r =>
    obtain ⟨hi, ho⟩ | ⟨hi, hc, ho⟩ | ⟨hi, hs, ha, ho⟩ := countOutcome_cases e r
    · exact .inl ⟨ho, by simp only [State.countEntry, hk, hi, if_false]⟩
    · refine .inr ⟨r, rfl, by rw [ho]; nofun, ?_⟩
      have hnone : (Kit.enrolled r).countNotices s.settings s.clock.absCycle hold e = [] := by
        simp [Kit.countNotices, afterCount_other ho, countedRec]
      rw [hnone, countEntry_other hk hi hc, afterCount_other ho]
      rfl
    · refine .inr ⟨r, rfl, by rw [ho]; nofun, ?_⟩
      rw [countEntry_pendingSend hk ho hi hs ha, State.auditRaised, ha, if_neg Bool.false_ne_true]

/-- Besides the link, the count of an entry changes its kit's record and places, or nothing. -/
theorem countEntry_fields (hold : Bool) (e : Entry) (s : State) :
    ((s.kit e.kit).countOutcome e = .stale ∧ (s.countEntry hold e).1 = s) ∨
    ∃ r l, s.kit e.kit = .enrolled r ∧ (s.countEntry hold e).1 =
      (s.putKit e.kit (.enrolled (r.afterCount s.settings s.clock.absCycle hold e))).onLink fun _ => l := by
  obtain h | ⟨r, hk, -, he⟩ := countEntry_cases hold e s
  · exact .inl h
  · refine .inr ⟨r, (s.countEntry hold e).1.link, hk, ?_⟩
    rw [he, postAll_link, auditRaised_link]
    rfl

/-! ### The records (R85 to R89) -/

theorem afterCount_of_not_mem {g : Settings} {now : Nat} {hold : Bool} {es : List Entry} {k : Nat}
    (h : k ∉ es.map Entry.kit) (kit : Kit) : kit.afterCount g now hold es k = kit := by
  have hfind : es.find? (·.kit == k) = none := by
    rw [List.find?_eq_none]
    intro e he hk
    exact h (List.mem_map.2 ⟨e, he, by simpa using hk⟩)
  unfold Kit.afterCount
  rw [hfind]
  split
  · rename_i h; cases h
  · rfl

/-- The first entry of a kit decides what the count makes of its record. -/
theorem afterCount_head {g : Settings} {now : Nat} {hold : Bool} (e : Entry) (es : List Entry) (kit : Kit) :
    kit.afterCount g now hold (e :: es) e.kit = kit.afterCount g now hold [e] e.kit := by
  cases kit <;> simp [Kit.afterCount]

theorem afterCount_tail {g : Settings} {now : Nat} {hold : Bool} {e : Entry} {k : Nat} (h : k ≠ e.kit) (es : List Entry)
    (kit : Kit) : kit.afterCount g now hold (e :: es) k = kit.afterCount g now hold es k := by
  have hfind : (e :: es).find? (·.kit == k) = es.find? (·.kit == k) :=
    List.find?_cons_of_neg (by simpa using h.symm)
  unfold Kit.afterCount
  rw [hfind]

/-- The records after the count of one entry. -/
theorem kit_countEntry (hold : Bool) (e : Entry) (s : State) (k : Nat) : ((s.countEntry hold e).1).kit k =
    (s.kit k).afterCount s.settings s.clock.absCycle hold [e] k := by
  obtain ⟨ho, he⟩ | ⟨r, l, hk, he⟩ := countEntry_fields hold e s
  · rw [he]
    by_cases hne : k = e.kit
    · subst hne
      cases hk : s.kit e.kit with
      | enrolled r =>
        rw [hk] at ho
        simp [Kit.afterCount, afterCount_stale ho]
      | free => rfl
      | damaged => rfl
    · rw [afterCount_of_not_mem (by simpa using hne)]
  · rw [he, kit_congr (onLink_roster _ _), kit_putKit]
    split
    · rename_i hkit
      subst hkit
      rw [hk]
      simp [Kit.afterCount]
    · rename_i hne
      rw [afterCount_of_not_mem (by simpa using hne)]

theorem settings_countEntry (hold : Bool) (e : Entry) (s : State) : (s.countEntry hold e).1.settings = s.settings :=
  (airActs_countEntry hold e s).kept.settings

theorem clock_countEntry (hold : Bool) (e : Entry) (s : State) : (s.countEntry hold e).1.clock = s.clock :=
  (airActs_countEntry hold e s).kept.clock

theorem countEntries_cons (hold : Bool) (e : Entry) (es : List Entry) (s : State) :
    State.countEntries hold (e :: es) s =
      ((State.countEntries hold es (s.countEntry hold e).1).1,
        (s.countEntry hold e).2 :: (State.countEntries hold es (s.countEntry hold e).1).2) := rfl

/-- The count of an entry leaves the record of a kit that it does not name. -/
theorem kit_countEntry_of_ne {e : Entry} {k : Nat} (h : k ≠ e.kit) (hold : Bool) (s : State) :
    (s.countEntry hold e).1.kit k = s.kit k := by
  rw [kit_countEntry, afterCount_of_not_mem (by simpa using h)]

/-- The records after the count of entries that name different kits. -/
theorem kit_countEntries (hold : Bool) {es : List Entry} (hnd : (es.map Entry.kit).Nodup) (s : State) (k : Nat) :
    (State.countEntries hold es s).1.kit k = (s.kit k).afterCount s.settings s.clock.absCycle hold es k := by
  induction es generalizing s with
  | nil => exact (afterCount_of_not_mem (by simp) _).symm
  | cons e es ih =>
    rw [List.map_cons, List.nodup_cons] at hnd
    obtain ⟨hnot, hnd⟩ := hnd
    rw [countEntries_cons, ih hnd, settings_countEntry, clock_countEntry]
    by_cases hk : k = e.kit
    · subst hk
      rw [afterCount_of_not_mem hnot, kit_countEntry, afterCount_head e es]
    · rw [kit_countEntry_of_ne hk, afterCount_tail hk]

/-- The count of an entry leaves the records that the entries after it name. -/
theorem kits_after_countEntry {e : Entry} {es : List Entry} (h : e.kit ∉ es.map Entry.kit) (hold : Bool) (s : State)
    {e' : Entry} (he : e' ∈ es) : (s.countEntry hold e).1.kit e'.kit = s.kit e'.kit :=
  kit_countEntry_of_ne (fun hk => h (hk ▸ List.mem_map_of_mem he)) hold s

/-! ### The builder and the roll's positions (R102) -/

theorem builder_countEntries (hold : Bool) (es : List Entry) (s : State) :
    (State.countEntries hold es s).1.builder = s.builder := by
  induction es generalizing s with
  | nil => rfl
  | cons e es ih =>
    refine (ih _).trans ?_
    obtain ⟨-, he⟩ | ⟨r, l, -, he⟩ := countEntry_fields hold e s
    · rw [he]
    · rw [he, onLink_builder, putKit_builder]

/-- Each position holds its entry's outcome and the sends as the count left them. -/
theorem positions_countEntries (hold : Bool) {es : List Entry} (hnd : (es.map Entry.kit).Nodup) (s : State) :
    (State.countEntries hold es s).2 = es.map fun e => (s.kit e.kit).positionOf s.settings s.clock.absCycle hold e := by
  induction es generalizing s with
  | nil => rfl
  | cons e es ih =>
    rw [List.map_cons, List.nodup_cons] at hnd
    obtain ⟨hnot, hnd⟩ := hnd
    rw [countEntries_cons, List.map_cons, countEntry_position, ih hnd, settings_countEntry, clock_countEntry]
    refine congrArg _ (List.map_congr_left fun e' he' => ?_)
    rw [kits_after_countEntry hnot hold s he']

/-! ### The notices and AUDITS (R89, R168, R172) -/

theorem countNotices_stale {e : Entry} {kit : Kit} (h : kit.countOutcome e = .stale) (g : Settings) (now : Nat)
    (hold : Bool) : kit.countNotices g now hold e = [] := by
  cases kit with
  | enrolled r => simp [Kit.countNotices, afterCount_stale h]
  | free => rfl
  | damaged => rfl

theorem notices_countEntry (hold : Bool) (e : Entry) (s : State)
    (h : s.link.notices.length + ((s.kit e.kit).countNotices s.settings s.clock.absCycle hold e).length ≤ 32) :
    (s.countEntry hold e).1.link.notices =
      s.link.notices ++ s.clock.stamp ((s.kit e.kit).countNotices s.settings s.clock.absCycle hold e) := by
  obtain ⟨ho, he⟩ | ⟨r, -, -, he⟩ := countEntry_cases hold e s
  · rw [he, countNotices_stale ho]
    exact (List.append_nil _).symm
  · rw [he, notices_postAll _ _ (by rw [notices_auditRaised]; exact h), notices_auditRaised, auditRaised_link]
    rfl

/-- The counts of entries that name different kits post the notices of each, as the records stood before. -/
theorem notices_countEntries (hold : Bool) {es : List Entry} (hnd : (es.map Entry.kit).Nodup) (s : State)
    (h : s.link.notices.length +
      (es.flatMap fun e => (s.kit e.kit).countNotices s.settings s.clock.absCycle hold e).length ≤ 32) :
    (State.countEntries hold es s).1.link.notices = s.link.notices ++
      s.clock.stamp (es.flatMap fun e => (s.kit e.kit).countNotices s.settings s.clock.absCycle hold e) := by
  induction es generalizing s with
  | nil => simp [State.countEntries, Clock.stamp]
  | cons e es ih =>
    rw [List.map_cons, List.nodup_cons] at hnd
    obtain ⟨hnot, hnd⟩ := hnd
    rw [List.flatMap_cons, List.length_append] at h
    have hfirst := notices_countEntry hold e s (by omega)
    have hrest : (es.flatMap fun e' => ((s.countEntry hold e).1.kit e'.kit).countNotices (s.countEntry hold e).1.settings
          (s.countEntry hold e).1.clock.absCycle hold e') =
        es.flatMap fun e' => (s.kit e'.kit).countNotices s.settings s.clock.absCycle hold e' := by
      refine List.flatMap_congr fun e' he' => ?_
      rw [kits_after_countEntry hnot hold s he', settings_countEntry, clock_countEntry]
    have hroom : (s.countEntry hold e).1.link.notices.length +
        (es.flatMap fun e' => (s.kit e'.kit).countNotices s.settings s.clock.absCycle hold e').length ≤ 32 := by
      rw [hfirst, List.length_append, Clock.stamp, List.length_map]
      omega
    rw [countEntries_cons, ih hnd _ (hrest ▸ hroom), hrest, hfirst, clock_countEntry]
    simp [Clock.stamp]

/-- The entry is an audit and counts. -/
def auditCounts (s : State) (e : Entry) : Bool := e.audit && (s.kit e.kit).countOutcome e != .stale

theorem audits_countEntry (hold : Bool) (e : Entry) (s : State) : (s.countEntry hold e).1.link.counters.audits =
    if auditCounts s e then min (s.link.counters.audits + 1) 65535 else s.link.counters.audits := by
  obtain ⟨ho, he⟩ | ⟨r, -, ho, he⟩ := countEntry_cases hold e s
  · rw [he, auditCounts, ho, bne_self_eq_false, Bool.and_false, if_neg Bool.false_ne_true]
  · rw [he, counters_postAll, auditCounts, bne_iff_ne.2 ho, Bool.and_true, State.auditRaised]
    split <;> rfl

/-- AUDITS rises by the counted audits, stopping at its limit. -/
theorem audits_countEntries (hold : Bool) {es : List Entry} (hnd : (es.map Entry.kit).Nodup) (s : State)
    (h : s.link.counters.audits ≤ 65535) : (State.countEntries hold es s).1.link.counters.audits =
      min (s.link.counters.audits + (es.filter (auditCounts s)).length) 65535 := by
  induction es generalizing s with
  | nil => exact (Nat.min_eq_left h).symm
  | cons e es ih =>
    rw [List.map_cons, List.nodup_cons] at hnd
    obtain ⟨hnot, hnd⟩ := hnd
    have hfirst := audits_countEntry hold e s
    have hrest : es.filter (auditCounts (s.countEntry hold e).1) = es.filter (auditCounts s) :=
      List.filter_congr fun e' he' => by rw [auditCounts, kits_after_countEntry hnot hold s he', auditCounts]
    have hroom : (s.countEntry hold e).1.link.counters.audits ≤ 65535 := by rw [hfirst]; split <;> omega
    rw [countEntries_cons, ih hnd _ hroom, hrest, hfirst, List.filter_cons]
    split
    · rw [List.length_cons]; omega
    · rfl

end Sys2Proof.Proofs
end

section
/-! PROOFS. SLOT_START with a burst to send: the counts of its entries, the roll that closes first, and the pending lists after
both (R73, R85 to R89, R97, R102, R103, R127 to R129). -/

namespace Sys2Proof.Proofs

open Sys2Proof Sys2Proof.Machine Sys2Proof.Laws

/-! ### The places of the kits that are counted (R73) -/

/-- A list after one kit's place was brought in line: the kit stands in it, at the tail if it is new, or leaves it. -/
def placed (k : Nat) (stands : Prop) [Decidable stands] (l : List Nat) : List Nat :=
  if stands then (if k ∈ l then l else l ++ [k]) else l.filter (· != k)

/-- A kit that stands in a list exactly if it should keeps the list as it is. -/
theorem placed_self {k : Nat} {stands : Prop} [Decidable stands] {l : List Nat} (h : k ∈ l ↔ stands) :
    placed k stands l = l := by
  unfold placed
  split
  · rename_i hs
    rw [if_pos (h.2 hs)]
  · rename_i hs
    refine List.filter_eq_self.2 fun j hj => ?_
    have hne : j ≠ k := by rintro rfl; exact hs (h.1 hj)
    simpa using hne

/-- Bringing one kit's place in line first makes no difference to a list of those that stand and of those that join. -/
theorem placed_standing {P : Nat → Prop} [DecidablePred P] {k : Nat} {ks : List Nat} (hk : k ∉ ks) (l : List Nat) :
    (placed k (P k) l).filter P ++ ks.filter (fun j => P j ∧ j ∉ placed k (P k) l) =
      l.filter P ++ (k :: ks).filter fun j => P j ∧ j ∉ l := by
  have hother : ∀ j ∈ ks, (j ∈ placed k (P k) l ↔ j ∈ l) := fun j hj => by
    have hne : j ≠ k := fun h => hk (h ▸ hj)
    unfold placed
    split
    · split <;> simp [hne]
    · simp [hne]
  have hjoin : ks.filter (fun j => P j ∧ j ∉ placed k (P k) l) = ks.filter fun j => P j ∧ j ∉ l :=
    List.filter_congr fun j hj => by simp only [hother j hj]
  rw [hjoin]
  unfold placed
  by_cases hp : P k
  · by_cases hl : k ∈ l <;> simp [hp, hl]
  · have hleave : (l.filter (· != k)).filter P = l.filter P := by
      rw [List.filter_filter]
      refine List.filter_congr fun j _ => ?_
      by_cases hj : j = k
      · subst hj; simp [hp]
      · simp [hj]
    rw [if_neg hp, hleave]
    simp [hp]

/-- The count of an entry keeps the tables canonical and the lists on the records. -/
theorem sound_countEntry {s : State} (hc : s.tablesCanonical = true) (hf : s.listsFollow) (hold : Bool) (e : Entry) :
    (s.countEntry hold e).1.tablesCanonical = true ∧ (s.countEntry hold e).1.listsFollow := by
  obtain ⟨-, he⟩ | ⟨r, l, -, he⟩ := countEntry_fields hold e s <;> rw [he]
  · exact ⟨hc, hf⟩
  · have hc' := tablesCanonical_putKit hc e.kit (.enrolled (r.afterCount s.settings s.clock.absCycle hold e))
    exact ⟨(tablesCanonical_congr rfl rfl rfl).trans hc', listsFollow_congr rfl rfl (listsFollow_putKit hc hf _ _)⟩

theorem sound_countEntries {s : State} (hc : s.tablesCanonical = true) (hf : s.listsFollow) (hold : Bool) (es : List Entry) :
    (State.countEntries hold es s).1.tablesCanonical = true ∧ (State.countEntries hold es s).1.listsFollow := by
  induction es generalizing s with
  | nil => exact ⟨hc, hf⟩
  | cons e es ih =>
    obtain ⟨hc', hf'⟩ := sound_countEntry hc hf hold e
    exact ih hc' hf'

/-- The count of an entry brings its kit's places in line. -/
theorem list_countEntry {s : State} (hc : s.tablesCanonical = true) (hf : s.listsFollow) (hold : Bool) (e : Entry)
    (slot : Nat) : (s.countEntry hold e).1.list slot =
      placed e.kit (slot ∈ ((s.countEntry hold e).1.kit e.kit).requiredSlots) (s.list slot) := by
  obtain ⟨-, he⟩ | ⟨r, l, -, he⟩ := countEntry_fields hold e s
  · rw [he, placed_self ((hf slot).2 e.kit)]
  · rw [he, kit_congr (onLink_roster _ _), kit_putKit, if_pos rfl]
    exact list_putKit (lists_of_tablesCanonical hc) e.kit _ slot

/-- Each list after the counts: those of it that still stand in it, in their order, and then the kits that join it, in the
order of their entries. -/
theorem list_countEntries (hold : Bool) {es : List Entry} (hnd : (es.map Entry.kit).Nodup) {s : State}
    (hc : s.tablesCanonical = true) (hf : s.listsFollow) (slot : Nat) {P : Nat → Prop} [DecidablePred P]
    (hP : ∀ k, P k ↔ slot ∈ ((State.countEntries hold es s).1.kit k).requiredSlots) :
    (State.countEntries hold es s).1.list slot =
      (s.list slot).filter P ++ (es.map Entry.kit).filter fun k => P k ∧ k ∉ s.list slot := by
  induction es generalizing s with
  | nil =>
    have hstand : (s.list slot).filter P = s.list slot :=
      List.filter_eq_self.2 fun k hk => decide_eq_true ((hP k).2 (((hf slot).2 k).1 hk))
    rw [hstand]
    exact (List.append_nil _).symm
  | cons e es ih =>
    rw [List.map_cons, List.nodup_cons] at hnd
    obtain ⟨hnot, hnd⟩ := hnd
    obtain ⟨hc', hf'⟩ := sound_countEntry hc hf hold e
    have hstands : slot ∈ ((s.countEntry hold e).1.kit e.kit).requiredSlots ↔ P e.kit := by
      rw [hP, countEntries_cons, kit_countEntries hold hnd, afterCount_of_not_mem hnot]
    have hplaced : (s.countEntry hold e).1.list slot = placed e.kit (P e.kit) (s.list slot) := by
      rw [list_countEntry hc hf]
      simp only [hstands]
    rw [countEntries_cons, ih hnd hc' hf' hP, hplaced, List.map_cons]
    exact placed_standing hnot _

/-! ### The roll that closes first (R103, R127 to R129) -/

/-- The older of two open rolls, if a roll is to be opened for this burst (R103). -/
def State.rollToClose (b : Burst) (s : State) : Option Roll :=
  if b.entries ≠ [] ∧ s.builder.rolls.length = 2 then s.builder.rolls.head? else none

/-- The part after the forced close of a roll, if one is to close. -/
def State.closedFor (closing : Option Roll) (s : State) : State :=
  match closing with
  | some roll => s.closeRoll roll
  | none => s

/-- A kit's record after the forced close of a roll, if one is to close. -/
def Kit.afterClosing (g : Settings) (closing : Option Roll) (k : Nat) (kit : Kit) : Kit :=
  match closing with
  | some roll => kit.afterClose g roll k
  | none => kit

theorem kit_closedFor {closing : Option Roll} (hnd : ∀ roll ∈ closing, (roll.positions.map Position.kit).Nodup) (s : State)
    (k : Nat) : (State.closedFor closing s).kit k = Kit.afterClosing s.settings closing k (s.kit k) := by
  cases closing with
  | none => rfl
  | some roll => exact kit_charges roll (hnd roll rfl) s k

/-- A close takes no kit's place in a list from it, and gives it none. -/
theorem requiredSlots_afterClosing (g : Settings) (closing : Option Roll) (k : Nat) (kit : Kit) :
    (Kit.afterClosing g closing k kit).requiredSlots = kit.requiredSlots := by
  cases closing with
  | none => rfl
  | some roll =>
    show (kit.afterClose g roll k).requiredSlots = _
    unfold Kit.afterClose
    split
    · split <;> rfl
    · rfl

theorem notices_closedFor {closing : Option Roll} (hnd : ∀ roll ∈ closing, (roll.positions.map Position.kit).Nodup)
    (s : State) (h : s.link.notices.length + (closing.toList.flatMap fun roll =>
      roll.positions.flatMap fun p => (s.kit p.kit).closeNotices s.settings roll p).length ≤ 32) :
    (State.closedFor closing s).link.notices = s.link.notices ++ s.clock.stamp (closing.toList.flatMap fun roll =>
      roll.positions.flatMap fun p => (s.kit p.kit).closeNotices s.settings roll p) := by
  cases closing with
  | none => exact (List.append_nil _).symm
  | some roll =>
    simp only [Option.toList_some, List.flatMap_cons, List.flatMap_nil, List.append_nil] at h ⊢
    exact notices_charges roll (hnd roll rfl) s h

theorem counters_closedFor (closing : Option Roll) (s : State) :
    (State.closedFor closing s).link.counters = s.link.counters := by
  cases closing with
  | none => rfl
  | some roll => exact (kept_closeRoll s roll).counters

theorem list_closedFor (closing : Option Roll) {s : State} (hc : s.tablesCanonical = true) (hf : s.listsFollow) (slot : Nat) :
    (State.closedFor closing s).list slot = s.list slot := by
  cases closing with
  | none => rfl
  | some roll => exact (listsStand_charges roll roll.positions hc hf).same slot

/-! ### The burst on air (R97, R102, R103) -/

/-- The same records, lists, notices and AUDITS. -/
structure SameBooks (s t : State) : Prop where
  roster  : t.roster = s.roster
  lists   : t.scheduler.lists = s.scheduler.lists
  notices : t.link.notices = s.link.notices
  audits  : t.link.counters.audits = s.link.counters.audits

theorem audits_countBurst (entries stale : Nat) (c : Counters) : (countBurst entries stale c).audits = c.audits := by
  unfold countBurst
  dsimp only
  split <;> rfl

/-- With two rolls open the older one closes before a new one opens (R103). -/
theorem openRoll_eq (b : Burst) (ps : List Position) {s : State} (h : s.builder.rolls.length ≤ 2) (hb : b.entries ≠ []) :
    s.openRoll b ps = (State.closedFor (State.rollToClose b s) s).onBuilder fun q =>
      { q with
        rolls := q.rolls ++ [{ id := q.nextRoll, slot := b.slot, cycle := b.targetCycle, hold := b.hold
                               windowEnded := false, positions := ps }]
        nextRoll := q.nextRoll + 1
        slotRoll := some q.nextRoll } := by
  unfold State.openRoll
  refine congrArg (fun t : State => t.onBuilder _) ?_
  unfold State.rollToClose
  cases hr : s.builder.rolls with
  | nil => rw [if_neg (by simp)]; rfl
  | cons oldest rest =>
    rw [hr] at h
    by_cases hfull : (oldest :: rest).length = 2
    · rw [if_pos ⟨hb, hfull⟩]
      exact if_pos hfull.ge
    · rw [if_neg fun hc => hfull hc.2]
      exact if_neg fun hge => hfull (Nat.le_antisymm h hge)

/-- The part with this READY burst's buffer ON AIR. -/
def State.burstTaken (b : Burst) (s : State) : State := s.onBuilder fun q => { q with ready := none, onAir := some b }

/-- The part after the counts of a burst's entries, as its buffer goes on air. -/
def State.burstCounted (b : Burst) (s : State) : State := (State.countEntries b.hold b.entries (State.burstTaken b s)).1

/-- The positions of a burst's entries as they are counted. -/
def State.burstPositions (b : Burst) (s : State) : List Position :=
  (State.countEntries b.hold b.entries (State.burstTaken b s)).2

theorem rolls_burstCounted (b : Burst) (s : State) : (State.burstCounted b s).builder.rolls = s.builder.rolls := by
  rw [State.burstCounted, builder_countEntries]
  rfl

/-- The part as the burst's roll opens, if it has entries. -/
def State.rollOpened (b : Burst) (s : State) : State :=
  if b.entries.isEmpty then State.burstCounted b s else (State.burstCounted b s).openRoll b (State.burstPositions b s)

/-- A burst that goes on air has its entries counted and its roll opened; the rest moves an idle counter and the counters. -/
theorem goOnAir_rollOpened (b : Burst) (s : State) : SameBooks (State.rollOpened b s) (s.goOnAir b) ∧
    (s.goOnAir b).builder = (State.rollOpened b s).builder :=
  ⟨⟨rfl, rfl, rfl, audits_countBurst _ _ _⟩, rfl⟩

/-- The books after a burst went on air are those of its counts and of the close that made room for its roll. -/
theorem goOnAir_books {s : State} (h : s.builder.rolls.length ≤ 2) (b : Burst) :
    SameBooks (State.closedFor (State.rollToClose b s) (State.burstCounted b s)) (s.goOnAir b) := by
  obtain ⟨⟨hroster, hlists, hnotices, haudits⟩, -⟩ := goOnAir_rollOpened b s
  suffices hopened : SameBooks (State.closedFor (State.rollToClose b s) (State.burstCounted b s)) (State.rollOpened b s) from
    ⟨hroster.trans hopened.roster, hlists.trans hopened.lists, hnotices.trans hopened.notices,
      haudits.trans hopened.audits⟩
  by_cases hb : b.entries = []
  · rw [State.rollOpened, if_pos (by rw [hb]; rfl), State.rollToClose, if_neg fun hc => hc.1 hb]
    exact ⟨rfl, rfl, rfl, rfl⟩
  · have hrolls := rolls_burstCounted b s
    have hclosing : State.rollToClose b s = State.rollToClose b (State.burstCounted b s) := by
      rw [State.rollToClose, State.rollToClose, hrolls]
    rw [State.rollOpened, if_neg (by simpa using hb), openRoll_eq b _ (hrolls ▸ h) hb, hclosing]
    exact ⟨rfl, rfl, rfl, rfl⟩

/-- A burst with entries opens the slot's roll, with a position for each entry (R102). -/
theorem goOnAir_opens {s : State} (h : s.builder.rolls.length ≤ 2) {b : Burst} (hb : b.entries ≠ []) :
    ∃ roll ∈ (s.goOnAir b).builder.rolls, (s.goOnAir b).builder.slotRoll = some roll.id ∧
      roll.positions = State.burstPositions b s := by
  rw [(goOnAir_rollOpened b s).2, State.rollOpened, if_neg (by simpa using hb),
    openRoll_eq b _ ((rolls_burstCounted b s).symm ▸ h) hb]
  exact ⟨_, List.mem_append_right _ (List.mem_singleton.2 rfl), rfl, rfl⟩

/-- The slot's READY burst goes on air if the part is ON AIR (R97). -/
theorem slotOpened_sends {s : State} {b : Burst} (hop : s.link.op = .onAir) (hready : s.builder.ready = some b)
    (hslot : b.slot = s.clock.atSlotStart.slot) :
    (State.slotOpened s).builderAtSlotStart = (State.slotOpened s).goOnAir b := by
  obtain ⟨b', hb', -, -, he⟩ | ⟨hnone, -⟩ := builderAtSlotStart_cases (State.slotOpened s)
  · obtain rfl : b = b' := Option.some.inj (hready.symm.trans hb')
    exact he
  · exact ((hnone b hready).elim (· hop) (· hslot)).elim

theorem rollToClose_mem {b : Burst} {s : State} {roll : Roll} (h : roll ∈ State.rollToClose b s) :
    roll ∈ s.builder.rolls := by
  unfold State.rollToClose at h
  split at h
  · exact List.mem_of_head? h
  · cases h

/-- What the counts of a burst make of the part, as its records stood before. -/
structure BurstCounts (b : Burst) (s t : State) : Prop where
  settings : t.settings = s.settings
  clock    : t.clock = s.clock
  kits     : ∀ k, t.kit k = (s.kit k).afterCount s.settings s.clock.absCycle b.hold b.entries k
  notices  :
    let posted := b.entries.flatMap fun e => (s.kit e.kit).countNotices s.settings s.clock.absCycle b.hold e
    s.link.notices.length + posted.length ≤ 32 → t.link.notices = s.link.notices ++ s.clock.stamp posted
  audits   : s.link.counters.audits ≤ 65535 → t.link.counters.audits =
    min (s.link.counters.audits + (b.entries.filter (auditCounts s)).length) 65535
  sound    : s.tablesCanonical = true → s.listsFollow → t.tablesCanonical = true ∧ t.listsFollow
  lists    : s.tablesCanonical = true → s.listsFollow → ∀ slot (P : Nat → Prop) [DecidablePred P],
    (∀ k, P k ↔ slot ∈ (t.kit k).requiredSlots) → t.list slot =
      (s.list slot).filter P ++ (b.entries.map Entry.kit).filter fun k => P k ∧ k ∉ s.list slot

theorem burstCounts {b : Burst} (hnd : (b.entries.map Entry.kit).Nodup) (s : State) :
    BurstCounts b s (State.burstCounted b s) := by
  have hkept := (airActs_countEntries b.hold b.entries (State.burstTaken b s)).kept
  have hcanonical (hc : s.tablesCanonical = true) : (State.burstTaken b s).tablesCanonical = true :=
    (tablesCanonical_congr rfl rfl rfl).trans hc
  have hfollow (hf : s.listsFollow) : (State.burstTaken b s).listsFollow := listsFollow_congr (s := s) rfl rfl hf
  exact
    { settings := hkept.settings
      clock := hkept.clock
      kits := kit_countEntries b.hold hnd (State.burstTaken b s)
      notices := notices_countEntries b.hold hnd (State.burstTaken b s)
      audits := audits_countEntries b.hold hnd (State.burstTaken b s)
      sound := fun hc hf => sound_countEntries (hcanonical hc) (hfollow hf) b.hold b.entries
      lists := fun hc hf slot _ _ hP => list_countEntries b.hold hnd (hcanonical hc) (hfollow hf) slot hP }

/-- The notices of the counts and of the forced close after them (assumption 29). -/
theorem notices_counted_closed {b : Burst} {s t : State} (h : BurstCounts b s t) {closing : Option Roll}
    (hnd : ∀ roll ∈ closing, (roll.positions.map Position.kit).Nodup) :
    let posted :=
      b.entries.flatMap (fun e => (s.kit e.kit).countNotices s.settings s.clock.absCycle b.hold e) ++
      closing.toList.flatMap fun roll => roll.positions.flatMap fun p =>
        ((s.kit p.kit).afterCount s.settings s.clock.absCycle b.hold b.entries p.kit).closeNotices s.settings roll p
    s.link.notices.length + posted.length ≤ 32 →
      (State.closedFor closing t).link.notices = s.link.notices ++ s.clock.stamp posted := by
  intro posted hroom
  have hclose := notices_closedFor hnd t
  simp only [h.kits, h.settings, h.clock] at hclose
  rw [List.length_append] at hroom
  have hcounted := h.notices (by omega)
  rw [hclose (by rw [hcounted, List.length_append, Clock.stamp, List.length_map]; omega), hcounted, List.append_assoc]
  simp only [posted, Clock.stamp, List.map_append]

/-- Settles O10: the counts of the entries one after another, and then the close of the older roll. -/
theorem slotStartCountsEachEntry : Obligations.SlotStartCountsEachEntry := by
  intro s b ht hop hready hslot hlen hnd hrolls g now counted closing posted
  refine ⟨_, exec_slotStart ht, ?_⟩
  rw [slotOpened_sends hop hready hslot]
  have hcounts := burstCounts hnd (State.slotOpened s)
  obtain ⟨hroster, hlists, hnotices, haudits⟩ := goOnAir_books (s := State.slotOpened s) hlen b
  have hclosing : ∀ roll ∈ closing, (roll.positions.map Position.kit).Nodup := fun roll hroll =>
    hrolls roll (rollToClose_mem (s := State.slotOpened s) hroll)
  have hkit (k : Nat) := (kit_congr hroster k).trans (kit_closedFor hclosing _ k)
  refine ⟨fun k => ?_, fun hroom => ?_, fun hle => ?_, fun hb => ?_, fun hc hf slot => ?_⟩
  · refine (hkit k).trans ?_
    rw [hcounts.settings, hcounts.kits]
    rfl
  · exact hnotices.trans (notices_counted_closed hcounts hclosing hroom)
  · refine haudits.trans ?_
    rw [counters_closedFor]
    exact hcounts.audits hle
  · obtain ⟨roll, hroll, hid, hpositions⟩ := goOnAir_opens (s := State.slotOpened s) hlen hb
    exact ⟨roll, hroll, hid, hpositions.trans (positions_countEntries b.hold hnd _)⟩
  · have hslots (k : Nat) := (congrArg Kit.requiredSlots (hkit k)).trans (requiredSlots_afterClosing _ _ k _)
    have hc' : (State.slotOpened s).tablesCanonical = true := (tablesCanonical_congr rfl rfl rfl).trans hc
    have hf' : (State.slotOpened s).listsFollow := listsFollow_congr (s := s) rfl rfl hf
    obtain ⟨hcanonical, hfollow⟩ := hcounts.sound hc' hf'
    refine (list_congr hlists slot).trans ((list_closedFor closing hcanonical hfollow slot).trans ?_)
    exact hcounts.lists hc' hf' slot
      (fun k => slot ∈ (((State.slotOpened s).goOnAir b).kit k).requiredSlots) fun k => by rw [hslots]

end Sys2Proof.Proofs
end

section
/-! SUPPORT. The capacities, act by act: what the acts of reckonings and of the air side keep of the queues, and that no
reckoning opens a roll (R103, R111, R145, R162, R168). -/

namespace Sys2Proof.Proofs

open Sys2Proof Sys2Proof.Machine Sys2Proof.Laws

/-! ### The queues within their capacities -/

/-- The queues and lists but for the rolls hold no more than the manual allows (R111, R145, R162, R168). -/
structure QueuesFit (s : State) : Prop where
  queue   : s.store.queue.length ≤ queueCapacity
  notices : s.link.notices.length ≤ noticeCapacity
  lost    : s.link.lost ≤ 255
  fifo    : s.framer.fifo.length ≤ fifoCapacity
  replies : s.link.replies.length + s.link.hand.isSome.toNat ≤ replyCapacity

theorem withinCapacities_iff {s : State} :
    s.withinCapacities = true ↔ QueuesFit s ∧ s.builder.rolls.length ≤ rollCapacity := by
  simp only [State.withinCapacities, Bool.and_eq_true, decide_eq_true_eq]
  constructor
  · rintro ⟨⟨⟨⟨⟨hq, hn⟩, hl⟩, hf⟩, hr⟩, hp⟩
    exact ⟨⟨hq, hn, hl, hf, hp⟩, hr⟩
  · rintro ⟨⟨hq, hn, hl, hf, hp⟩, hr⟩
    exact ⟨⟨⟨⟨⟨hq, hn⟩, hl⟩, hf⟩, hr⟩, hp⟩

/-- A notice joins a queue that has room for it, or is counted as lost up to the limit (R168). -/
theorem queuesFit_post {s : State} (h : QueuesFit s) (n : NoticeKind) (k : Option Nat) : QueuesFit (s.post n k) := by
  refine { h with notices := ?_, lost := ?_, replies := ?_ }
  · rw [post_link]
    split
    · rw [List.length_append, List.length_singleton]; assumption
    · exact h.notices
  · rw [post_link]
    split
    · exact h.lost
    · exact Nat.min_le_right _ _
  · rw [post_link_replies, post_link_hand]
    exact h.replies

/-- The place kept in the reply list for a command in hand is free (R162). -/
theorem room_of_hand {s : State} (h : QueuesFit s) {c : Hand} (hh : s.link.hand = some c) :
    s.link.replies.length < replyCapacity := by
  have := h.replies
  rw [hh] at this
  exact this

/-- The reply of a taken command takes a free place, and the command leaves the hand (R160, R162). -/
theorem queuesFit_answerTaken {s : State} (h : QueuesFit s) (hroom : s.link.replies.length < replyCapacity) (k : CmdKind)
    (tag : Byte) (p : List Byte) (r : Reply) : QueuesFit (s.answerTaken k tag p r) :=
  { h with replies := by rw [answerTaken_link, List.length_append]; exact hroom }

theorem queuesFit_answerHand {s : State} (h : QueuesFit s) {c : Hand} (hh : s.link.hand = some c) (c' : Hand) (st : Status)
    (content : List Byte) : QueuesFit (s.answerHand c' st content) :=
  queuesFit_answerTaken h (room_of_hand h hh) _ _ _ _

theorem AirAct.queuesFit {s t : State} (h : AirAct s t) (hs : QueuesFit s) : QueuesFit t := by
  cases h with
  | record r' hk hr => exact { hs with }
  | post n k => exact queuesFit_post hs n k
  | count w n => exact { hs with }
  | builder f => exact { hs with }
  | idle slot => exact { hs with }

theorem queuesFit_airActs {s t : State} (h : AirActs s t) (hs : QueuesFit s) : QueuesFit t := by
  induction h with
  | refl => exact hs
  | tail _ ha ih => exact ha.queuesFit ih

theorem ReckonAct.queuesFit {s t : State} (h : ReckonAct s t) (hs : QueuesFit s) : QueuesFit t := by
  cases h with
  | air h => exact h.queuesFit hs
  | @apply k kit hk => exact { hs with queue := enqueue_within (s := s.putKit k kit) hk hs.queue }
  | hand hh hr hset =>
    refine { hs with replies := ?_ }
    have := hs.replies
    rw [hh] at this
    exact this
  | answer st content hh hr => exact queuesFit_answerHand hs hh _ st content
  | walk w => exact { hs with }
  | handler h => exact { hs with }
  | frame => exact { hs with fifo := (List.length_tail.trans_le (Nat.sub_le _ 1)).trans hs.fifo }
  | rotation r => exact { hs with }

theorem queuesFit_reckonActs {s t : State} (h : ReckonActs s t) (hs : QueuesFit s) : QueuesFit t := by
  induction h with
  | refl => exact hs
  | tail _ ha ih => exact ha.queuesFit ih

/-! ### The open rolls (R103) -/

/-- How many rolls are open. -/
def State.openRolls (s : State) : Nat := s.builder.rolls.length

theorem openRolls_congr {s t : State} (h : t.builder = s.builder) : State.openRolls t = State.openRolls s := by
  rw [State.openRolls, State.openRolls, h]

theorem openRolls_closeDone (s : State) : State.openRolls s.closeDone ≤ State.openRolls s := by
  rw [State.openRolls, builder_closeDone]
  exact List.length_filter_le _ _

theorem openRolls_finishFrame (s : State) : State.openRolls s.finishFrame ≤ State.openRolls s := openRolls_closeDone _

theorem builder_finishIndex (s : State) (w : Walk) (changed : Bool) : (s.finishIndex w changed).builder = s.builder := by
  rcases finishIndex_cases s w changed with ⟨-, h⟩ | ⟨-, -, h⟩ | ⟨-, -, h⟩ <;> rw [h] <;> rfl

theorem builder_settleHand (s : State) : s.settleHand.builder = s.builder := by
  rcases settleHand_cases s with h | ⟨c, -, -, -, -, h⟩ <;> rw [h]
  rfl

theorem builder_reckonBlock (h : Hand) (s : State) : (s.reckonBlock h).builder = s.builder := by
  unfold State.reckonBlock
  dsimp only
  split
  · rw [builder_settleHand]; rfl
  · rfl

theorem builder_reckonLink (s : State) : s.reckonLink.builder = s.builder := by
  unfold State.reckonLink
  split
  · rfl
  · split
    · rfl
    · split
      · exact builder_reckonBlock _ s
      · dsimp only
        split <;> rfl

theorem builder_reckonWalker (s : State) : s.reckonWalker.builder = s.builder := by
  unfold State.reckonWalker
  split
  · rfl
  · split
    · split
      · split <;> exact builder_finishIndex _ _ _
      · exact builder_finishIndex _ _ _
    · rfl

theorem builder_reckonRequest (q : HandlerReq) (s : State) : (State.reckonRequest q s).builder = s.builder := by
  cases q with
  | completeMove k =>
    show (s.reckonMove k).builder = _
    unfold State.reckonMove
    split
    · split <;> rfl
    · rfl
  | tamperHold k =>
    show (s.reckonTamper k).builder = _
    unfold State.reckonTamper
    split
    · split <;> rfl
    · rfl

theorem openRolls_reckonHandler (s : State) : State.openRolls s.reckonHandler ≤ State.openRolls s := by
  cases hq : s.handler with
  | idle => simp only [State.reckonHandler, hq]; exact Nat.le_refl _
  | stalled q second =>
    have hreq := openRolls_congr (builder_reckonRequest q s)
    rw [reckonHandler_stalled hq]
    cases second with
    | some q' => exact hreq.le
    | none => exact (openRolls_finishFrame _).trans hreq.le

theorem openRolls_serve (r : Requester) (s : State) : State.openRolls (s.serve r) ≤ State.openRolls s := by
  cases r with
  | link => exact (openRolls_congr (builder_reckonLink s)).le
  | walker => exact (openRolls_congr (builder_reckonWalker s)).le
  | handler => exact openRolls_reckonHandler s

theorem openRolls_serveIfFor (k : Nat) (s : State) (r : Requester) :
    State.openRolls (s.serveIfFor k r) ≤ State.openRolls s := by
  unfold State.serveIfFor
  split
  · exact openRolls_serve r s
  · exact Nat.le_refl _

theorem openRolls_serveAccepted (r : Requester) (s : State) : State.openRolls (s.serveAccepted r) ≤ State.openRolls s := by
  unfold State.serveAccepted
  split
  · exact Nat.le_refl _
  · dsimp only
    split
    · exact (openRolls_serveIfFor _ _ _).trans ((openRolls_serveIfFor _ _ _).trans (openRolls_serve r s))
    · exact openRolls_serve r s

theorem openRolls_giveRoom (n : Nat) (s : State) : State.openRolls (s.giveRoom n) ≤ State.openRolls s := by
  induction n generalizing s with
  | zero => exact Nat.le_refl _
  | succ n ih =>
    unfold State.giveRoom
    split
    · split
      · exact (ih _).trans (openRolls_serveAccepted _ s)
      · exact Nat.le_refl _
    · exact Nat.le_refl _

theorem openRolls_startRecordWrite (k : Nat) (rest : List Nat) (s : State) :
    State.openRolls (s.startRecordWrite k rest) ≤ State.openRolls s := by
  unfold State.startRecordWrite
  dsimp only
  split
  · exact openRolls_giveRoom 4 (State.headTaken k rest s)
  · exact Nat.le_refl _

theorem openRolls_startNextWrite (s : State) : State.openRolls s.startNextWrite ≤ State.openRolls s := by
  rcases startNextWrite_cases s with ⟨h, -⟩ | ⟨-, -, h⟩ | ⟨k, rest, -, -, -, h⟩ <;> rw [h]
  · exact Nat.le_refl _
  · exact openRolls_startRecordWrite k rest s

end Sys2Proof.Proofs
end

section
/-! PROOFS. Every command and event keeps the queues, the rolls and the reply list within their capacities (R103, R111, R145,
R162, R168). -/

namespace Sys2Proof.Proofs

open Sys2Proof Sys2Proof.Machine Sys2Proof.Laws

/-! ### Acts that keep the capacities -/

/-- The capacities that the first state meets are met by the second: those of the queues, and that of the rolls. -/
structure CapacitiesKept (s t : State) : Prop where
  queues : QueuesFit s → QueuesFit t
  rolls  : State.openRolls s ≤ rollCapacity → State.openRolls t ≤ rollCapacity

theorem CapacitiesKept.refl (s : State) : CapacitiesKept s s := ⟨id, id⟩

theorem CapacitiesKept.trans {s t u : State} (h : CapacitiesKept s t) (h' : CapacitiesKept t u) : CapacitiesKept s u :=
  ⟨h'.queues ∘ h.queues, h'.rolls ∘ h.rolls⟩

/-- What the capacities bound: the queues and lists, and whether a command is in hand. -/
def State.bounded (s : State) : List Nat × List Notice × Nat × List Frame × List Roll × List Reply × Bool :=
  (s.store.queue, s.link.notices, s.link.lost, s.framer.fifo, s.builder.rolls, s.link.replies, s.link.hand.isSome)

/-- Acts that leave what the capacities bound keep them. -/
theorem CapacitiesKept.of_eq {s t : State} (h : State.bounded t = State.bounded s) : CapacitiesKept s t := by
  simp only [State.bounded, Prod.mk.injEq] at h
  obtain ⟨hqueue, hnotices, hlost, hfifo, hrolls, hreplies, hhand⟩ := h
  exact
    { queues := fun hs =>
        { queue := hqueue ▸ hs.queue, notices := hnotices ▸ hs.notices, lost := hlost ▸ hs.lost, fifo := hfifo ▸ hs.fifo
          replies := by rw [hreplies, hhand]; exact hs.replies }
      rolls := fun hs => by rw [State.openRolls, hrolls]; exact hs }

/-- What follows and leaves what the capacities bound keeps them too. -/
theorem CapacitiesKept.then {s u t : State} (h : CapacitiesKept s u) (he : State.bounded t = State.bounded u) :
    CapacitiesKept s t := h.trans (.of_eq he)

theorem capacitiesKept_post (s : State) (n : NoticeKind) (k : Option Nat) : CapacitiesKept s (s.post n k) :=
  ⟨fun hs => queuesFit_post hs n k, id⟩

/-- A run of acts on the air side that opens no roll keeps the capacities. -/
theorem capacitiesKept_airActs {s t : State} (h : AirActs s t) (hr : State.openRolls t ≤ State.openRolls s) :
    CapacitiesKept s t := ⟨queuesFit_airActs h, hr.trans⟩

/-- A run of reckonings that opens no roll keeps the capacities. -/
theorem capacitiesKept_reckonActs {s t : State} (h : ReckonActs s t) (hr : State.openRolls t ≤ State.openRolls s) :
    CapacitiesKept s t := ⟨queuesFit_reckonActs h, hr.trans⟩

theorem capacitiesKept_closeDone (s : State) : CapacitiesKept s s.closeDone :=
  capacitiesKept_airActs (airActs_closeDone s) (openRolls_closeDone s)

theorem capacitiesKept_finishFrame (s : State) : CapacitiesKept s s.finishFrame :=
  capacitiesKept_reckonActs (reckonActs_finishFrame s) (openRolls_finishFrame s)

theorem capacitiesKept_endWalk (s : State) (w : Walk) (aborted : Bool) : CapacitiesKept s (s.endWalk w aborted) :=
  (CapacitiesKept.of_eq rfl : CapacitiesKept s (s.setWalk none)).trans (capacitiesKept_post _ _ _)

theorem capacitiesKept_abortWalk (s : State) : CapacitiesKept s s.abortWalk := by
  unfold State.abortWalk
  split
  · exact .refl s
  · split
    · exact .of_eq rfl
    · exact capacitiesKept_endWalk s _ _

/-- The head of the queue taken off it makes room. -/
theorem capacitiesKept_headTaken {s : State} {k : Nat} {rest : List Nat} (h : s.store.queue = k :: rest) :
    CapacitiesKept s (State.headTaken k rest s) := by
  refine ⟨fun hs => { hs with queue := ?_, replies := ?_ }, id⟩
  · have := hs.queue
    rw [h] at this
    exact (Nat.le_succ _).trans this
  · show s.link.replies.length + (s.link.hand.map (markStarted k)).isSome.toNat ≤ replyCapacity
    rw [Option.isSome_map]
    exact hs.replies

theorem capacitiesKept_startNextWrite (s : State) : CapacitiesKept s s.startNextWrite := by
  refine ⟨?_, (openRolls_startNextWrite s).trans⟩
  rcases startNextWrite_cases s with ⟨h, -⟩ | ⟨-, -, h⟩ | ⟨k, rest, -, -, hq, h⟩ <;> rw [h]
  · exact id
  · exact fun hs => { hs with }
  · obtain ⟨u, hu, he⟩ := startRecordWrite_acts k rest s
    rw [he]
    intro hs
    have := queuesFit_reckonActs hu ((capacitiesKept_headTaken hq).queues hs)
    exact { this with }

theorem capacitiesKept_tryAccept (s : State) (r : Requester) : CapacitiesKept s (s.tryAccept r) := by
  rcases tryAccept_cases s r with ⟨h, -⟩ | ⟨k, hw, hk, h⟩ <;> rw [h]
  · exact .refl s
  · have hacc := reckonActs_serveAccepted (s := s) (r := r) fun j hj => by rw [hw] at hj; cases hj; exact hk
    exact (capacitiesKept_reckonActs hacc (openRolls_serveAccepted r s)).trans (capacitiesKept_startNextWrite _)

theorem capacitiesKept_beginPreparation (s : State) : CapacitiesKept s s.beginPreparation := by
  rcases beginPreparation_cases s with ⟨-, -, h⟩ | ⟨-, h⟩ <;> rw [h]
  · exact .of_eq rfl
  · exact .refl s

/-- In LOADING all is empty but for the replies that are still to be sent (R8, R163). -/
theorem capacitiesKept_enterLoading (speed : Bool) {sending : List Reply} (s t : State) (h : sending.length ≤ replyCapacity) :
    CapacitiesKept t (s.enterLoading speed sending) :=
  ⟨fun _ => ⟨Nat.zero_le _, Nat.zero_le _, Nat.zero_le _, Nat.zero_le _, h⟩, fun _ => Nat.zero_le _⟩

/-- A part whose every block takes its reset value holds nothing. -/
theorem capacitiesKept_blank (s t : State) : CapacitiesKept t s.blank :=
  ⟨fun _ => ⟨Nat.zero_le _, Nat.zero_le _, Nat.zero_le _, Nat.zero_le _, Nat.zero_le _⟩, fun _ => Nat.zero_le _⟩

/-! ### The frames (R160 to R162) -/

/-- The reply list has a place for the reply of a command that is taken, and no command is in hand (R160, R162). -/
structure RoomToTake (s : State) : Prop where
  hand    : s.link.hand = none
  replies : s.link.replies.length < replyCapacity

/-- A reply that joins the list with a free place left beside it. -/
theorem capacitiesKept_pushReply {s : State} (h : s.link.replies.length + 1 < replyCapacity) (r : Reply) :
    CapacitiesKept s (s.pushReply r) := by
  refine ⟨fun hs => { hs with replies := ?_ }, id⟩
  have := Bool.toNat_le s.link.hand.isSome
  show (s.link.replies ++ [r]).length + s.link.hand.isSome.toNat ≤ replyCapacity
  rw [List.length_append, List.length_singleton]
  omega

theorem capacitiesKept_answerUntaken (r : Reply) (s : State) : CapacitiesKept s (s.answerUntaken r) := by
  unfold State.answerUntaken
  split
  · exact capacitiesKept_pushReply ‹_› r
  · exact .of_eq rfl

theorem capacitiesKept_answerTaken {s : State} (h : RoomToTake s) (k : CmdKind) (tag : Byte) (p : List Byte) (r : Reply) :
    CapacitiesKept s (s.answerTaken k tag p r) := ⟨fun hs => queuesFit_answerTaken hs h.replies k tag p r, id⟩

theorem capacitiesKept_answerNow {s : State} (h : RoomToTake s) (k : CmdKind) (tag : Byte) (p : List Byte) (st : Status)
    (c : List Byte) : CapacitiesKept s (s.answerNow k tag p st c) := capacitiesKept_answerTaken h _ _ _ _

/-- The room to take a command stays where an act leaves what the capacities bound. -/
theorem RoomToTake.congr {s u : State} (h : RoomToTake s) (he : State.bounded u = State.bounded s) : RoomToTake u := by
  simp only [State.bounded, Prod.mk.injEq] at he
  obtain ⟨-, -, -, -, -, hreplies, hhand⟩ := he
  rw [h.hand, Option.isSome_none, Option.isSome_eq_false_iff, Option.isNone_iff_eq_none] at hhand
  exact ⟨hhand, hreplies ▸ h.replies⟩

/-- A command that waits in hand takes the place that is kept for its reply. -/
theorem capacitiesKept_setHand {s : State} (h : RoomToTake s) (c : Hand) : CapacitiesKept s (s.setHand c) :=
  ⟨fun hs => { hs with replies := h.replies }, id⟩

theorem capacitiesKept_requestRule {s : State} (h : RoomToTake s) (k : CmdKind) (tag : Byte) (p : List Byte) :
    CapacitiesKept s (s.requestRule k tag p) := by
  unfold State.requestRule
  split
  · exact capacitiesKept_answerNow h ..
  · exact (capacitiesKept_setHand h _).trans (capacitiesKept_tryAccept _ _)

/-- The notices that are fetched leave the queue (R169). -/
theorem capacitiesKept_fetchNoticesRule {s : State} (h : RoomToTake s) (tag : Byte) (p : List Byte) :
    CapacitiesKept s (fetchNoticesRule tag p s) := by
  refine (capacitiesKept_answerNow h .fetchNotices tag p .ok s.link.fetched).trans ⟨fun hs => ?_, id⟩
  refine { hs with notices := ?_, lost := Nat.zero_le _ }
  exact (List.length_drop.trans_le (Nat.sub_le _ _)).trans hs.notices

theorem capacitiesKept_ruleOf {s : State} (h : RoomToTake s) (k : CmdKind) (tag : Byte) (p : List Byte) :
    CapacitiesKept s (ruleOf k tag p s) := by
  have answer := fun st c => capacitiesKept_answerNow h k tag p st c
  have answerAfter (u : State) (st : Status) (c : List Byte) (he : State.bounded u = State.bounded s) :
      CapacitiesKept s (u.answerNow k tag p st c) := (CapacitiesKept.of_eq he).trans (capacitiesKept_answerNow (h.congr he) ..)
  cases k with
  | identify => exact answer _ _
  | status => exact answer _ _
  | configure =>
    show CapacitiesKept s (configureRule tag p s)
    unfold configureRule
    split
    · exact answer _ _
    · exact answerAfter _ _ _ rfl
  | loadPattern =>
    show CapacitiesKept s (loadPatternRule tag p s)
    unfold loadPatternRule
    split
    · exact answer _ _
    · exact answerAfter _ _ _ rfl
  | saveSettings =>
    refine CapacitiesKept.trans ?_ (capacitiesKept_startNextWrite _)
    exact (capacitiesKept_setHand h _).then rfl
  | setClock =>
    show CapacitiesKept s (setClockRule tag p s)
    unfold setClockRule
    split
    · exact answer _ _
    · split
      · exact answer _ _
      · exact answerAfter _ _ _ rfl
  | start =>
    show CapacitiesKept s (startRule tag p s)
    unfold startRule
    split
    · exact answer _ _
    · split
      · exact answer _ _
      · exact (answerAfter (s.setOp .onAir) .ok [] rfl).trans (capacitiesKept_beginPreparation _)
  | stop =>
    show CapacitiesKept s (stopRule tag p s)
    unfold stopRule
    split
    · exact answer _ _
    · exact (answerAfter (s.setOp .standby) .ok [] rfl).then rfl
  | reset =>
    show CapacitiesKept s (resetRule tag p s)
    unfold resetRule
    split
    · exact capacitiesKept_answerTaken h ..
    · refine CapacitiesKept.trans ?_ (capacitiesKept_abortWalk _)
      exact (answer .ok []).then rfl
  | enrolBlock =>
    show CapacitiesKept s (enrolBlockRule tag p s)
    unfold enrolBlockRule
    split
    · exact answer _ _
    · exact capacitiesKept_requestRule h ..
  | readKit =>
    show CapacitiesKept s (readKitRule tag p s)
    unfold readKitRule
    dsimp only
    split <;> exact answer _ _
  | grace =>
    show CapacitiesKept s (graceRule tag p s)
    unfold graceRule
    split
    · exact answer _ _
    · split
      · exact answer _ _
      · exact answerAfter _ _ _ rfl
  | graceAbort =>
    show CapacitiesKept s (graceAbortRule tag p s)
    unfold graceAbortRule
    split
    · exact answer _ _
    · exact (answer _ _).trans (capacitiesKept_abortWalk _)
  | fetchNotices => exact capacitiesKept_fetchNoticesRule h tag p
  | counters => exact (answer .ok s.link.counters.report).then rfl
  | enrol => exact capacitiesKept_requestRule h ..
  | retire => exact capacitiesKept_requestRule h ..
  | restore => exact capacitiesKept_requestRule h ..
  | grant => exact capacitiesKept_requestRule h ..
  | setHorizon => exact capacitiesKept_requestRule h ..
  | withdraw => exact capacitiesKept_requestRule h ..
  | resume => exact capacitiesKept_requestRule h ..
  | move => exact capacitiesKept_requestRule h ..

/-- A taken frame passes the gates of the operating state and the clock to its command's rule, or is answered (R14). -/
theorem capacitiesKept_admitFrame {s : State} (h : RoomToTake s) (k : CmdKind) (tag : Byte) (p : List Byte) :
    CapacitiesKept s (s.admitFrame k tag p (ruleOf k)) := by
  unfold State.admitFrame
  split
  · exact capacitiesKept_answerNow h ..
  · split
    · exact capacitiesKept_answerNow h ..
    · exact capacitiesKept_ruleOf h k tag p

/-- The tests of a frame let it be taken only when the reply list has room for its reply (R160, R162). -/
theorem capacitiesKept_receiveFrame (k : CmdKind) (tag : Byte) (p : List Byte) (s : State) :
    CapacitiesKept s (s.receiveFrame k tag p (ruleOf k)) := by
  have waiting : CapacitiesKept s (State.waiting s) := .of_eq rfl
  unfold State.receiveFrame
  dsimp only
  split
  · split
    · exact waiting.trans (capacitiesKept_answerUntaken _ _)
    · rename_i hhand
      split
      · exact waiting.trans (capacitiesKept_answerUntaken _ _)
      · split
        · exact waiting.trans (capacitiesKept_answerUntaken _ _)
        · split
          · exact waiting.then rfl
          · rename_i hroom
            have room : RoomToTake (State.waiting s) := ⟨Option.not_isSome_iff_eq_none.1 hhand, Nat.lt_of_not_le hroom⟩
            exact waiting.trans (capacitiesKept_admitFrame room k tag p)
  · exact .refl s

theorem capacitiesKept_receiveUnknown (kind tag : Byte) (s : State) : CapacitiesKept s (s.receiveUnknown kind tag) := by
  unfold State.receiveUnknown
  split
  · exact (CapacitiesKept.of_eq rfl : CapacitiesKept s (State.waiting s)).trans (capacitiesKept_answerUntaken _ _)
  · exact .refl s

theorem capacitiesKept_rejectFrame (r : RejectReason) (s : State) : CapacitiesKept s (s.rejectFrame r) := by
  have hr : CapacitiesKept s ((State.waiting s).raise .linkRejects) := .of_eq rfl
  unfold State.rejectFrame
  dsimp only
  split
  · exact hr.trans (capacitiesKept_pushReply ‹_› _)
  · exact hr

theorem capacitiesKept_frameChecked (n : Nat) (body check : List Byte) (s : State) :
    CapacitiesKept s (s.frameChecked n body check) := by
  unfold State.frameChecked
  split
  · split
    · split
      · exact capacitiesKept_receiveFrame ..
      · exact capacitiesKept_receiveUnknown ..
    · exact capacitiesKept_rejectFrame ..
  · exact capacitiesKept_rejectFrame ..

theorem capacitiesKept_takeLinkByte (b : Byte) (s : State) : CapacitiesKept s (s.takeLinkByte b) := by
  have goTo : ∀ r, CapacitiesKept s (s.onLink fun l => { l with receiver := r }) := fun r => .of_eq rfl
  unfold State.takeLinkByte
  dsimp only
  split
  · split
    · exact goTo _
    · exact .refl s
  · split
    · exact capacitiesKept_rejectFrame ..
    · exact goTo _
  · split <;> exact goTo _
  · exact goTo _
  · exact capacitiesKept_frameChecked ..

/-! ### Time, the uplink and receipts -/

/-- The part with room for one more roll: of two open ones the older is closed (R103). -/
def State.roomForRoll (s : State) : State :=
  match s.builder.rolls with
  | oldest :: _ => if rollCapacity ≤ s.builder.rolls.length then s.closeRoll oldest else s
  | [] => s

theorem openRoll_roomForRoll (b : Burst) (ps : List Position) (s : State) :
    s.openRoll b ps = (State.roomForRoll s).onBuilder fun q =>
      { q with
        rolls := q.rolls ++ [{ id := q.nextRoll, slot := b.slot, cycle := b.targetCycle, hold := b.hold
                               windowEnded := false, positions := ps }]
        nextRoll := q.nextRoll + 1
        slotRoll := some q.nextRoll } := rfl

/-- A close frees the place of the roll that closes. -/
theorem openRolls_closeRoll {s : State} {roll : Roll} (h : roll ∈ s.builder.rolls) :
    State.openRolls (s.closeRoll roll) < State.openRolls s := by
  rw [State.openRolls, builder_closeRoll]
  exact List.length_filter_lt_length_iff_exists.2 ⟨roll, h, by simp⟩

theorem openRolls_roomForRoll {s : State} (h : State.openRolls s ≤ rollCapacity) :
    State.openRolls (State.roomForRoll s) < rollCapacity := by
  unfold State.roomForRoll
  split
  · rename_i oldest rest hrolls
    split
    · exact (openRolls_closeRoll (hrolls ▸ List.mem_cons_self)).trans_le h
    · exact Nat.lt_of_not_le ‹_›
  · rename_i hrolls
    rw [State.openRolls, hrolls]
    exact Nat.zero_lt_succ 1

theorem openRolls_openRoll (b : Burst) (ps : List Position) {s : State} (h : State.openRolls s ≤ rollCapacity) :
    State.openRolls (s.openRoll b ps) ≤ rollCapacity := by
  rw [openRoll_roomForRoll, State.openRolls, onBuilder_builder, List.length_append]
  exact openRolls_roomForRoll h

theorem openRolls_goOnAir (b : Burst) {s : State} (h : State.openRolls s ≤ rollCapacity) :
    State.openRolls (s.goOnAir b) ≤ rollCapacity := by
  have hcounted : State.openRolls (State.burstCounted b s) = State.openRolls s := congrArg List.length (rolls_burstCounted b s)
  rw [openRolls_congr (goOnAir_rollOpened b s).2, State.rollOpened]
  split
  · exact hcounted.trans_le h
  · exact openRolls_openRoll b _ (hcounted.trans_le h)

theorem capacitiesKept_builderAtSlotStart (s : State) : CapacitiesKept s s.builderAtSlotStart := by
  refine ⟨queuesFit_airActs (airActs_builderAtSlotStart s), fun hs => ?_⟩
  rcases builderAtSlotStart_cases s with ⟨b, -, -, -, h⟩ | ⟨-, ⟨b, -, -, h⟩ | ⟨-, h⟩⟩ <;> rw [h]
  · exact openRolls_goOnAir b hs
  · exact hs
  · exact hs

theorem capacitiesKept_takeDownlinkWindowEnd (s : State) : CapacitiesKept s s.takeDownlinkWindowEnd := by
  have hclock : CapacitiesKept s (s.onClock fun c => { c with timer := .reply 1 }) := .of_eq rfl
  unfold State.takeDownlinkWindowEnd
  dsimp only
  split
  · exact hclock.trans (capacitiesKept_beginPreparation _)
  · exact hclock

theorem capacitiesKept_closeSubWindow (s : State) : CapacitiesKept s s.closeSubWindow := by
  rcases closeSubWindow_cases s with h | h <;> rw [h]
  · exact .refl s
  · exact .of_eq rfl

theorem capacitiesKept_takeSubWindowStart (k : Nat) (s : State) : CapacitiesKept s (s.takeSubWindowStart k) := by
  refine (capacitiesKept_closeSubWindow s).trans (.of_eq ?_)
  unfold State.takeSubWindowStart
  dsimp only [State.bounded, onFramer_framer, onClock_framer]
  split <;> rfl

theorem capacitiesKept_windowOver (s : State) : CapacitiesKept s (State.windowOver s) := by
  refine (capacitiesKept_closeSubWindow s).trans ⟨fun hs => { hs with }, fun hs => ?_⟩
  exact (List.length_map _).trans_le hs

/-- A whole frame joins the FIFO only when it has room (R111, R112). -/
theorem capacitiesKept_completeFrame (bs : List Byte) (s : State) : CapacitiesKept s (s.completeFrame bs) := by
  unfold State.completeFrame
  split
  · split
    · rename_i hroom
      refine ⟨fun hs => { hs with fifo := ?_ }, id⟩
      exact (List.length_append).trans_le hroom
    · exact .of_eq rfl
  · exact .refl s

theorem capacitiesKept_takeUplinkByte (b : Byte) (s : State) : CapacitiesKept s (s.takeUplinkByte b) := by
  have mode : ∀ m, CapacitiesKept s (s.setMode m) := fun m => .of_eq rfl
  unfold State.takeUplinkByte
  split
  · split
    · exact mode _
    · exact .refl s
  · split
    · exact mode _
    · split
      · exact .refl s
      · exact mode _
  · split
    · exact mode _
    · exact capacitiesKept_completeFrame _ s
  · exact .refl s

theorem capacitiesKept_takeUplinkError (s : State) : CapacitiesKept s s.takeUplinkError := by
  unfold State.takeUplinkError
  split
  · exact .refl s
  · exact .of_eq rfl
  · exact .of_eq rfl
  · exact .refl s

theorem capacitiesKept_postIf {s t : State} (h : CapacitiesKept s t) (c : Bool) (n : NoticeKind) (k : Option Nat) :
    CapacitiesKept s (if c then t.post n k else t) := by
  cases c
  · exact h
  · exact h.trans (capacitiesKept_post t n k)

/-- An accepted receipt marks its position and opens no roll (R118). -/
theorem openRolls_receiptHeard (roll : Roll) (k : Nat) (f : Frame) (r : KitRec) (s : State) :
    State.openRolls (State.receiptHeard roll k f r s) = State.openRolls s := by
  obtain ⟨-, -, -, hrolls⟩ := receiptNoted_kept roll k f r s
  rw [State.openRolls, receiptHeard_eq, (counted_applyReading _ _ _ _).rolls, hrolls]
  exact List.length_map _

theorem capacitiesKept_handleFrame (f : Frame) (s : State) : CapacitiesKept s (s.handleFrame f) := by
  have raised (w : Counter) : CapacitiesKept s (s.raise w) := .of_eq rfl
  unfold State.handleFrame
  split
  · exact (raised _).trans (capacitiesKept_finishFrame _)
  · exact (capacitiesKept_postIf (raised _) _ _ _).trans (capacitiesKept_finishFrame _)
  · exact (capacitiesKept_postIf (raised _) _ _ _).trans (capacitiesKept_finishFrame _)
  · rename_i roll k r hj
    have heard := capacitiesKept_airActs (airActs_receiptHeard (kit_of_judge hj) roll f)
      (openRolls_receiptHeard roll k f r s).le
    obtain ⟨-, h⟩ | ⟨q, rest, -, h⟩ := acceptReceipt_cases s roll k f r <;> rw [h]
    · exact heard.trans (capacitiesKept_finishFrame _)
    · exact heard.then rfl

/-! ### The record store and the walk -/

theorem capacitiesKept_loadSettings (read : Option (List Byte)) (s : State) : CapacitiesKept s (s.loadSettings read) := by
  have hreject (reason : Nat) : CapacitiesKept s (s.rejectSettings reason) :=
    (CapacitiesKept.of_eq rfl : CapacitiesKept s ((s.setSettings .default).onScheduler _)).trans (capacitiesKept_post _ _ _)
  unfold State.loadSettings
  split
  · exact (hreject 2).then rfl
  · split
    · exact (hreject _).then rfl
    · exact .of_eq rfl

theorem capacitiesKept_loadKit (k : Nat) (read : Option (List Byte)) (s : State) : CapacitiesKept s (s.loadKit k read) := by
  have hread : CapacitiesKept s (State.kitRead k read s) := by
    have hput : CapacitiesKept s (s.putKit k (kitOfRead k read)) := .of_eq rfl
    unfold State.kitRead
    split
    · exact hput.trans (capacitiesKept_post _ _ _)
    · exact hput
  rw [loadKit_eq]
  split <;> exact hread.then rfl

theorem capacitiesKept_settleHand (s : State) : CapacitiesKept s s.settleHand :=
  capacitiesKept_reckonActs (reckonActs_settleHand s) (openRolls_congr (builder_settleHand s)).le

theorem capacitiesKept_recordVerified (k : Nat) (s : State) : CapacitiesKept s (s.recordVerified k) := by
  rw [recordVerified_eq]
  have h : CapacitiesKept s (State.writeVerified k s) := .of_eq (by simp [State.bounded, State.writeVerified])
  exact (h.trans (capacitiesKept_settleHand _)).trans (capacitiesKept_startNextWrite _)

theorem capacitiesKept_settingsVerified (s : State) : CapacitiesKept s s.settingsVerified := by
  rw [settingsVerified_eq]
  have h : CapacitiesKept s (State.saveVerified s) := .of_eq (by simp [State.bounded, State.saveVerified])
  exact (h.trans (capacitiesKept_settleHand _)).trans (capacitiesKept_startNextWrite _)

/-- A store fault answers the command in hand in the place that is kept for it (R13, R151). -/
theorem capacitiesKept_storeFault (t : StoreTarget) (e : Bool) (s : State) : CapacitiesKept s (s.storeFault t e) := by
  rw [storeFault_eq]
  have hstop : CapacitiesKept s (State.controllerStopped t e s) :=
    ((CapacitiesKept.of_eq rfl : CapacitiesKept s (s.onStore fun c => { c with mode := .stopped t })).trans
      (capacitiesKept_post _ _ _)).then rfl
  have hwalk (u : State) : CapacitiesKept u (State.walkAborted u) := by
    unfold State.walkAborted
    split
    · exact capacitiesKept_endWalk u _ _
    · exact .refl u
  have hhandler (u : State) : CapacitiesKept u u.withdrawHandler := by
    rcases withdrawHandler_cases u with ⟨-, h⟩ | ⟨-, h⟩ <;> rw [h]
    · exact .refl u
    · exact capacitiesKept_finishFrame u
  have hhand (u : State) : CapacitiesKept u (State.handRefused u) := by
    unfold State.handRefused
    split
    · exact ⟨fun hs => queuesFit_answerHand hs ‹_› _ _ _, id⟩
    · exact .refl u
  exact ((hstop.trans (hwalk _)).trans (hhandler _)).trans (hhand _)

theorem capacitiesKept_attemptFailed (e : Bool) (s : State) : CapacitiesKept s (s.attemptFailed e) := by
  obtain ⟨k, image, n, -, ⟨-, h⟩ | ⟨-, h⟩⟩ | ⟨image, n, -, ⟨-, h⟩ | ⟨-, h⟩⟩ | h := attemptFailed_cases e s <;> rw [h]
  · exact .of_eq rfl
  · exact capacitiesKept_storeFault _ _ s
  · exact .of_eq rfl
  · exact capacitiesKept_storeFault _ _ s
  · exact .refl s

theorem capacitiesKept_attemptReadBack (bs : List Byte) (s : State) : CapacitiesKept s (s.attemptReadBack bs) := by
  have held (t : StoreTarget) : CapacitiesKept s (s.memoryHolds t bs) := .of_eq rfl
  unfold State.attemptReadBack
  split
  · unfold State.recordReadBack
    dsimp only
    split
    · exact (held _).trans (capacitiesKept_recordVerified _ _)
    · exact (held _).trans (capacitiesKept_attemptFailed _ _)
  · unfold State.settingsReadBack
    dsimp only
    split
    · exact (held _).trans (capacitiesKept_settingsVerified _)
    · exact (held _).trans (capacitiesKept_attemptFailed _ _)
  · exact .refl s

theorem capacitiesKept_attemptInError (left : List Byte) (s : State) : CapacitiesKept s (s.attemptInError left) := by
  have held (t : StoreTarget) : CapacitiesKept s (s.memoryHolds t left) := .of_eq rfl
  unfold State.attemptInError
  split
  · exact (held _).trans (capacitiesKept_attemptFailed _ _)
  · exact (held _).trans (capacitiesKept_attemptFailed _ _)
  · exact .refl s

theorem capacitiesKept_memoryTimeout (left : List Byte) (s : State) : CapacitiesKept s (s.memoryTimeout left) := by
  unfold State.memoryTimeout
  split
  · exact capacitiesKept_loadSettings ..
  · exact capacitiesKept_loadKit ..
  · exact capacitiesKept_attemptInError left s

theorem capacitiesKept_examineNext (s : State) : CapacitiesKept s s.examineNext := by
  unfold State.examineNext
  split
  · split
    · exact .refl s
    · split
      · exact .of_eq rfl
      · exact capacitiesKept_reckonActs (reckonActs_finishIndex ..) (openRolls_congr (builder_finishIndex ..)).le
  · exact .refl s

/-- A reply that was sent leaves the list, or the part enters LOADING with none to send (R11, R162). -/
theorem capacitiesKept_takeReplySent (speed : Bool) (s : State) : CapacitiesKept s (s.takeReplySent speed) := by
  unfold State.takeReplySent
  split
  · exact .refl s
  · rename_i r rest hr
    split
    · exact capacitiesKept_enterLoading speed s s (Nat.zero_le _)
    · refine ⟨fun hs => { hs with replies := ?_ }, id⟩
      have := hs.replies
      rw [hr, List.length_cons] at this
      show rest.length + s.link.hand.isSome.toNat ≤ replyCapacity
      omega

/-! ### Every command and event -/

/-- An event that takes effect under a condition keeps the capacities if its effect does. -/
theorem capacitiesKept_if {s t : State} (c : Bool) (h : CapacitiesKept s t) : CapacitiesKept s (if c then t else s) := by
  cases c
  · exact .refl s
  · exact h

theorem capacitiesKept_exec (c : Instr) (s : State) : ∃ t, exec c s = .next t ∧ CapacitiesKept s t := by
  cases c using Instr.byFrame with
  | command k tag p => exact ⟨_, exec_commandOf k tag p s, capacitiesKept_receiveFrame k tag p s⟩
  | powerUp speed => exact ⟨_, rfl, capacitiesKept_enterLoading speed _ s (Nat.zero_le _)⟩
  | resetPinAsserted tear => exact ⟨_, rfl, (capacitiesKept_blank _ s).then rfl⟩
  | powerLoss tear => exact ⟨_, rfl, (capacitiesKept_blank _ s).then rfl⟩
  | resetPinDeasserted speed =>
    refine ⟨_, rfl, capacitiesKept_if _ ?_⟩
    split
    · exact capacitiesKept_enterLoading speed _ s (Nat.zero_le _)
    · exact .of_eq rfl
  | referenceClockStops => exact ⟨_, rfl, .of_eq rfl⟩
  | referenceClockReturns => exact ⟨_, rfl, .of_eq rfl⟩
  | slotStart =>
    have hopened : CapacitiesKept s (State.slotOpened s) := .of_eq rfl
    exact ⟨_, rfl, capacitiesKept_if _ ((hopened.trans (capacitiesKept_builderAtSlotStart _)).then rfl)⟩
  | downlinkWindowEnd => exact ⟨_, rfl, capacitiesKept_if _ (capacitiesKept_takeDownlinkWindowEnd s)⟩
  | replySubWindowStart k => exact ⟨_, rfl, capacitiesKept_if _ (capacitiesKept_takeSubWindowStart k s)⟩
  | replyWindowEnd =>
    exact ⟨_, rfl, capacitiesKept_if _ ((capacitiesKept_windowOver s).trans (capacitiesKept_closeDone _))⟩
  | hourTick => exact ⟨_, rfl, capacitiesKept_if _ (.of_eq rfl)⟩
  | preparationComplete =>
    refine ⟨_, rfl, capacitiesKept_if _ ?_⟩
    unfold State.takePreparationComplete
    split
    · exact .of_eq rfl
    · exact .refl s
  | burstComplete => exact ⟨_, rfl, capacitiesKept_if _ (.of_eq rfl)⟩
  | uplinkFrameComplete b =>
    refine ⟨_, rfl, ?_⟩
    split
    · exact capacitiesKept_if _ (capacitiesKept_completeFrame _ s)
    · exact .refl s
  | uplinkByteError => exact ⟨_, rfl, capacitiesKept_if _ (capacitiesKept_takeUplinkError s)⟩
  | uplinkByteArrival b => exact ⟨_, rfl, capacitiesKept_if _ (capacitiesKept_takeUplinkByte b s)⟩
  | receiptHandle =>
    refine ⟨_, rfl, ?_⟩
    split
    · exact capacitiesKept_if _ (capacitiesKept_handleFrame _ s)
    · exact .refl s
  | moveCompletion =>
    refine ⟨_, rfl, ?_⟩
    split
    · exact capacitiesKept_if _ (capacitiesKept_tryAccept s _)
    · exact .refl s
  | withdrawalOnTamper =>
    refine ⟨_, rfl, ?_⟩
    split
    · exact capacitiesKept_if _ (capacitiesKept_tryAccept s _)
    · exact .refl s
  | graceExamine => exact ⟨_, rfl, capacitiesKept_if _ (capacitiesKept_examineNext s)⟩
  | graceReckoning => exact ⟨_, rfl, capacitiesKept_if _ (capacitiesKept_tryAccept s _)⟩
  | commandReckoning => exact ⟨_, rfl, capacitiesKept_if _ (capacitiesKept_tryAccept s _)⟩
  | storeAttemptComplete e =>
    refine ⟨_, rfl, capacitiesKept_if _ ?_⟩
    cases e with
    | good => exact capacitiesKept_attemptReadBack _ s
    | readBack bs => exact capacitiesKept_attemptReadBack bs s
    | inError left => exact capacitiesKept_attemptInError left s
  | storeMemoryTimeout left => exact ⟨_, rfl, capacitiesKept_if _ (capacitiesKept_memoryTimeout left s)⟩
  | settingsBlockRead r =>
    refine ⟨_, rfl, ?_⟩
    split
    · exact capacitiesKept_if _ (capacitiesKept_loadSettings _ s)
    · exact .refl s
  | kitRecordRead r =>
    refine ⟨_, rfl, ?_⟩
    split
    · exact capacitiesKept_if _ (capacitiesKept_loadKit _ _ s)
    · exact .refl s
  | closingDrainComplete speed =>
    exact ⟨_, rfl, capacitiesKept_if _ (capacitiesKept_enterLoading speed s s
      ((List.length_take_le 1 _).trans (by decide)))⟩
  | replySent speed => exact ⟨_, rfl, capacitiesKept_if _ (capacitiesKept_takeReplySent speed s)⟩
  | notePulseEnd => exact ⟨_, rfl, capacitiesKept_if _ (.of_eq rfl)⟩
  | linkFrameReject r => exact ⟨_, rfl, capacitiesKept_if _ (capacitiesKept_rejectFrame r s)⟩
  | linkGapExpiry => exact ⟨_, rfl, capacitiesKept_if _ (capacitiesKept_rejectFrame .gap s)⟩
  | unknownKindFrame kind tag => exact ⟨_, rfl, capacitiesKept_receiveUnknown kind tag s⟩
  | linkByteArrival b => exact ⟨_, rfl, capacitiesKept_if _ (capacitiesKept_takeLinkByte b s)⟩

/-- Settles O55: each command and event is made of acts that keep the capacities. -/
theorem everyStepKeepsTheCapacities : Obligations.EveryStepKeepsTheCapacities := by
  intro s t hs h
  obtain ⟨-, rfl⟩ | ⟨c, rest, -, he⟩ := step_cases h
  · exact hs
  · obtain ⟨u, hu, hk⟩ := capacitiesKept_exec c { s with pending := rest }
    cases he.symm.trans hu
    obtain ⟨hqueues, hrolls⟩ := withinCapacities_iff.1 hs
    exact withinCapacities_iff.2 ⟨hk.queues { hqueues with }, hk.rolls hrolls⟩

end Sys2Proof.Proofs
end

section
/-! PROOFS. The burst buffers and the downlink data line: what the end of a preparation and of a burst does, how long an encoded
burst is, and the levels of a line that sends bytes (R91, R92, R96, R99, R100). -/

namespace Sys2Proof.Proofs

open Sys2Proof Sys2Proof.Machine Sys2Proof.Laws

/-! ### Messages of parts that are equally long -/

theorem length_flatten_map {α β : Type} {f : α → List β} {n : Nat} (hf : ∀ a, (f a).length = n) (l : List α) :
    (l.map f).flatten.length = n * l.length := by
  simp [List.length_flatten, List.map_map, Function.comp_def, hf, Nat.mul_comm]

/-! ### A line that sends bytes (R99, R156) -/

/-- The first ten bit times of a line are those of its first byte, and then those of the rest come. -/
theorem lineLevel_cons (b : Byte) (bs : List Byte) (i : Nat) :
    lineLevel (b :: bs) i = if i < 10 then (lineBits b).getD i restLevel else lineLevel bs (i - 10) := by
  unfold lineLevel
  rw [List.map_cons, List.flatten_cons]
  split
  · rename_i h
    exact List.getD_append _ _ _ _ h
  · rename_i h
    exact List.getD_append_right _ _ _ _ (Nat.le_of_not_lt h)

/-- A bit time of the byte at a place is one of that byte's ten bits. -/
theorem lineLevel_byte {bs : List Byte} {j : Nat} {b : Byte} (h : bs[j]? = some b) {i : Nat} (hi : i < 10) :
    lineLevel bs (10 * j + i) = (lineBits b).getD i restLevel := by
  induction bs generalizing j with
  | nil => cases h
  | cons c bs ih =>
    rw [lineLevel_cons]
    cases j with
    | zero =>
      obtain rfl : c = b := Option.some.inj h
      rw [Nat.mul_zero, Nat.zero_add, if_pos hi]
    | succ j =>
      rw [if_neg (by omega), show 10 * (j + 1) + i - 10 = 10 * j + i by omega]
      exact ih h

/-- A byte's data bits stand between its start bit and its stop bit, least significant first. -/
theorem lineBits_data (b : Byte) {i : Nat} (hi : i < 8) : (lineBits b).getD (1 + i) restLevel = b.getLsbD i := by
  rw [Nat.add_comm, lineBits, List.cons_append, List.getD_cons_succ, List.getD_append _ _ _ _ (by simpa using hi)]
  simp [hi]

/-- A line sends the bytes it is given, and rests after them. -/
theorem lineSends_lineLevel (bs : List Byte) : lineSends bs (lineLevel bs) := by
  refine ⟨fun j b hb => ⟨?_, fun i hi => ?_, ?_⟩, fun i hi => ?_⟩
  · exact lineLevel_byte (i := 0) hb (by omega)
  · rw [Nat.add_assoc, lineLevel_byte hb (by omega), lineBits_data b hi]
  · rw [lineLevel_byte hb (by omega)]
    rfl
  · exact List.getD_eq_default _ _ ((length_flatten_map length_lineBits bs).trans_le hi)

/-! ### The encoded burst (R94 to R96) -/

theorem length_header (b : Burst) : b.header.length = 12 := rfl

theorem length_entryBytes (district : Nat) (e : Entry) : (e.bytes district).length = 11 := rfl

theorem length_burstBytes (b : Burst) : b.bytes.length = 12 + 11 * b.entries.length := by
  rw [Burst.bytes, List.length_append, length_header, length_flatten_map (length_entryBytes b.district)]

/-! ### The buffers (R91, R92, R100) -/

theorem exec_preparationComplete {s : State} {b : Burst} (hl : s.live = true) (hb : s.builder.preparing = some b) :
    exec .preparationComplete s =
      .next { s with builder := { s.builder with preparing := none, ready := some { b with encoded := b.bytes } } } := by
  show execPreparationComplete s = _
  rw [execPreparationComplete, if_pos hl, State.takePreparationComplete, hb]
  rfl

theorem exec_burstComplete {s : State} (h : s.clocked = true) :
    exec .burstComplete s = .next { s with builder := { s.builder with onAir := none } } := by
  show execBurstComplete s = _
  rw [execBurstComplete, if_pos h]
  rfl

/-- The bytes on air are those of the burst that is ON AIR, as its preparation encoded them. -/
theorem airBytes_onAir {s : State} {b : Burst} (h : s.builder.onAir = some b) : s.airBytes = b.encoded := by
  rw [State.airBytes, h]
  rfl

theorem airBytes_none {s : State} (h : s.builder.onAir = none) : s.airBytes = [] := by
  rw [State.airBytes, h]
  rfl

/-- Settles O14: the two events' effects, the lengths of a burst's parts, and the line that sends the bytes on air. -/
theorem burstBuffersCompleteAndEmpty : Obligations.BurstBuffersCompleteAndEmpty := by
  refine ⟨fun s b hl hb => exec_preparationComplete hl hb, fun s h => ⟨_, exec_burstComplete h, rfl, rfl⟩,
    length_burstBytes, fun s b hb => ?_, fun s h => ?_⟩
  · have hlevel : s.downlinkLevel = lineLevel b.encoded := by funext i; rw [State.downlinkLevel, airBytes_onAir hb]
    rw [State.downlinkBits, airBytes_onAir hb, hlevel]
    exact ⟨length_flatten_map length_lineBits b.encoded, lineSends_lineLevel b.encoded⟩
  · refine ⟨by rw [State.key, h]; rfl, fun i => ?_⟩
    rw [State.downlinkLevel, airBytes_none h, lineLevel_nil]

end Sys2Proof.Proofs
end

section
/-! PROOFS. A kit's receipt on its way to the FIFO, byte by byte, and how it reads there (R106, R108, R111, R117, R179, R181). -/

namespace Sys2Proof.Proofs

open Sys2Proof Sys2Proof.Machine Sys2Proof.Laws

/-! ### Runs of commands -/

theorem execAll_cons {c : Instr} {s t : State} (h : exec c s = .next t) (cs : List Instr) :
    execAll (c :: cs) s = execAll cs t := by
  rw [execAll, h]

theorem execAll_append {cs : List Instr} {s t : State} (h : execAll cs s = .next t) (cs' : List Instr) :
    execAll (cs ++ cs') s = execAll cs' t := by
  induction cs generalizing s with
  | nil => cases h; rfl
  | cons c cs ih =>
    rw [execAll] at h
    rw [List.cons_append, execAll]
    cases hc : exec c s with
    | next u => rw [hc] at h; exact ih h
    | fault f => rw [hc] at h; cases h
    | refused r => rw [hc] at h; cases h

/-! ### The bytes of one sub-window (R108, R111) -/

/-- The part with the framer in this sub-window state of a window it listens in. -/
def State.listeningIn (w : Window) (st : SubState) (s : State) : State :=
  { s with framer := { s.framer with window := some { w with mode := .listening st } } }

theorem listeningIn_self {s : State} {w : Window} {st : SubState} (hw : s.framer.window = some w)
    (hm : w.mode = .listening st) : State.listeningIn w st s = s := by
  have hwindow : some { w with mode := .listening st } = s.framer.window := by rw [hw, ← hm]
  rw [State.listeningIn, hwindow]

/-- The part with a whole frame of this window at the tail of the FIFO. -/
def State.frameJoined (w : Window) (bs : List Byte) (s : State) : State :=
  { s with framer := { s.framer with
      fifo := s.framer.fifo ++ [w.frame bs]
      window := some { w with mode := .listening .done } } }

theorem exec_byteHeard {s : State} (h : s.clocked = true) (w : Window) (st : SubState) (b : Byte) :
    exec (.uplinkByteArrival b) (State.listeningIn w st s) = .next ((State.listeningIn w st s).takeUplinkByte b) := by
  show execUplinkByteArrival b _ = _
  rw [execUplinkByteArrival]
  exact congrArg _ (if_pos h)

/-- The two bytes of the sync pattern take the search to a frame with nothing taken. -/
theorem exec_sync {s : State} (h : s.clocked = true) (w : Window) :
    execAll ([0x6B, 0x91].map Instr.uplinkByteArrival) (State.listeningIn w .searching s) =
      .next (State.listeningIn w (.taking []) s) := by
  have hfirst : exec (.uplinkByteArrival 0x6B) (State.listeningIn w .searching s) =
      .next (State.listeningIn w .syncSeen s) := exec_byteHeard h w _ _
  have hsecond : exec (.uplinkByteArrival 0x91) (State.listeningIn w .syncSeen s) =
      .next (State.listeningIn w (.taking []) s) := exec_byteHeard h w _ _
  rw [List.map_cons, execAll_cons hfirst, List.map_cons, execAll_cons hsecond]
  rfl

theorem takeUplinkByte_taking {bs : List Byte} (h : bs.length < 10) (w : Window) (b : Byte) (s : State) :
    (State.listeningIn w (.taking bs) s).takeUplinkByte b = State.listeningIn w (.taking (bs ++ [b])) s :=
  if_pos h

/-- Up to ten bytes are taken one after another. -/
theorem exec_taking {s : State} (h : s.clocked = true) (w : Window) (bs taken : List Byte)
    (hlen : taken.length + bs.length ≤ 10) :
    execAll (bs.map Instr.uplinkByteArrival) (State.listeningIn w (.taking taken) s) =
      .next (State.listeningIn w (.taking (taken ++ bs)) s) := by
  induction bs generalizing taken with
  | nil => rw [List.append_nil]; rfl
  | cons b bs ih =>
    rw [List.length_cons] at hlen
    have hbyte : exec (.uplinkByteArrival b) (State.listeningIn w (.taking taken) s) =
        .next (State.listeningIn w (.taking (taken ++ [b])) s) := by
      rw [exec_byteHeard h, takeUplinkByte_taking (by omega)]
    have hrest : (taken ++ [b]).length + bs.length ≤ 10 := by
      rw [List.length_append, List.length_singleton]
      omega
    rw [List.map_cons, execAll_cons hbyte, ih _ hrest, List.append_assoc, List.singleton_append]

/-- The eleventh byte completes a frame, which joins a FIFO that has room for it. -/
theorem takeUplinkByte_eleventh {s : State} {bs : List Byte} (hlen : bs.length = 10) (hroom : s.framer.fifo.length < 2)
    (w : Window) (b : Byte) :
    (State.listeningIn w (.taking bs) s).takeUplinkByte b = State.frameJoined w (bs ++ [b]) s := by
  have hten : ¬ bs.length < 10 := by omega
  calc (State.listeningIn w (.taking bs) s).takeUplinkByte b
      = (State.listeningIn w (.taking bs) s).completeFrame (bs ++ [b]) := if_neg hten
    _ = _ := if_pos hroom

/-- Eleven bytes after the sync pattern become one frame of the FIFO. -/
theorem exec_frame {s : State} (h : s.clocked = true) (hroom : s.framer.fifo.length < 2) (w : Window) {bs : List Byte}
    (hlen : bs.length = 11) :
    execAll (bs.map Instr.uplinkByteArrival) (State.listeningIn w (.taking []) s) =
      .next (State.frameJoined w bs s) := by
  obtain ⟨front, last, rfl⟩ := (List.eq_nil_or_concat' bs).resolve_left (by rintro rfl; cases hlen)
  have hten : front.length = 10 := by simpa using hlen
  rw [List.map_append, execAll_append (exec_taking h w front [] (by simp [hten])), List.nil_append, List.map_singleton,
    execAll_cons (exec_byteHeard h w _ last), takeUplinkByte_eleventh hten hroom]
  rfl

/-! ### The fields of a receipt (R179, R181) -/

theorem length_receipt (k : RadioKit) : k.receipt.length = 11 := rfl

/-- The check of a receipt is computed over the kit's code and the bytes before it (R117). -/
theorem receiptGood_receipt (k : RadioKit) : receiptGood k.code k.receipt = true := beq_self_eq_true _

theorem receiptDistrict_receipt {k : RadioKit} (h : k.district ≤ 65535) : receiptDistrict k.receipt = k.district :=
  (beNat_be2 k.district).trans (Nat.mod_eq_of_lt (by omega))

theorem receiptKit_receipt {k : RadioKit} (h : k.number ≤ 65535) : receiptKit k.receipt = k.number :=
  (beNat_be2 k.number).trans (Nat.mod_eq_of_lt (by omega))

/-- An issue reads back from its two bytes. -/
theorem ofNat_beNat_issue (i : Issue) : BitVec.ofNat 16 (beNat (be2 i.toNat)) = i := by
  rw [beNat_be2, Nat.mod_eq_of_lt i.isLt, BitVec.ofNat_toNat, BitVec.setWidth_eq]

theorem receiptIssue_receipt (k : RadioKit) : receiptIssue k.receipt = k.issue := ofNat_beNat_issue k.issue

theorem receiptUsage_receipt {k : RadioKit} (h : k.usage ≤ 65535) : receiptUsage k.receipt = k.usage :=
  (beNat_be2 k.usage).trans (Nat.mod_eq_of_lt (by omega))

theorem receiptStatus_receipt (k : RadioKit) : receiptStatus k.receipt = KitStatus.ofByte k.status := by
  have hbyte : field k.receipt 6 1 = k.status.toNat := by
    show 0 * 256 + k.status.toNat = k.status.toNat
    omega
  rw [receiptStatus, hbyte, BitVec.ofNat_toNat, BitVec.setWidth_eq]

/-- Settles O17: the sync pattern and eleven bytes make the frame, and its fields are the bytes the kit made of its own. -/
theorem kitReplyBecomesOneGoodFrame : Obligations.KitReplyBecomesOneGoodFrame := by
  intro k s w hclock hw hm hroom hdistrict hnumber husage
  refine ⟨?_, receiptGood_receipt k, receiptDistrict_receipt hdistrict, receiptKit_receipt hnumber,
    receiptIssue_receipt k, receiptUsage_receipt husage, ?_, ?_, ?_⟩
  · have hsync := exec_sync hclock w
    rw [listeningIn_self hw hm] at hsync
    rw [RadioKit.reply, List.map_append, execAll_append hsync]
    exact exec_frame hclock hroom w (length_receipt k)
  all_goals rw [receiptStatus_receipt]; rfl

end Sys2Proof.Proofs
end

section
/-! PROOFS. What a kit makes of a burst it hears: the header and the entry read back as they were encoded, and the entry of its own
is the first it accepts (R94, R95, R104 to R106, R179, R180). -/

namespace Sys2Proof.Proofs

open Sys2Proof Sys2Proof.Machine Sys2Proof.Laws

/-! ### The header (R94, R180) -/

/-- The count byte holds the entry count in its low bits and the reply-hold flag in bit 7. -/
theorem field_count {b : Burst} (h : b.entries.length ≤ 6) :
    field b.bytes 9 1 = b.entries.length + 128 * b.hold.toNat := by
  have hhold := Bool.toNat_le b.hold
  calc field b.bytes 9 1 = (b.entries.length % 8 + 128 * b.hold.toNat) % 256 := beNat_be1 _
    _ = b.entries.length + 128 * b.hold.toNat := by omega

theorem entryCount_bytes {b : Burst} (h : b.entries.length ≤ 6) : field b.bytes 9 1 % 8 = b.entries.length := by
  rw [field_count h]
  omega

theorem hold_bytes {b : Burst} (h : b.entries.length ≤ 6) : bitAt (field b.bytes 9 1) 7 = b.hold := by
  rw [field_count h, bitAt]
  cases b.hold
  · exact beq_false_of_ne (by simp only [Bool.toNat_false]; omega)
  · exact beq_iff_eq.2 (by simp only [Bool.toNat_true]; omega)

theorem hour_bytes {b : Burst} (h : b.dh ≤ 16777215) : field b.bytes 4 3 = b.dh :=
  (beNat_be3 b.dh).trans (Nat.mod_eq_of_lt (by omega))

theorem district_bytes {b : Burst} (h : b.district ≤ 65535) : field b.bytes 2 2 = b.district :=
  (beNat_be2 b.district).trans (Nat.mod_eq_of_lt (by omega))

/-- A kit hears every burst of its own district with at most six entries (R104). -/
theorem hears_bytes {k : RadioKit} {b : Burst} (hdistrict : b.district = k.district) (hk : k.district ≤ 65535)
    (hlen : b.entries.length ≤ 6) : k.hears b.bytes = true := by
  have hsync : b.bytes.take 2 = [0x5A, 0xC6] := rfl
  have hcheck : crcBytes ((b.bytes.drop 2).take 8) = (b.bytes.drop 10).take 2 := rfl
  rw [RadioKit.hears, hsync, hcheck, entryCount_bytes hlen, district_bytes (hdistrict ▸ hk), hdistrict]
  simp [hlen]

/-! ### The entries (R95, R179) -/

/-- After parts that are equally long, the next part stands at a multiple of their length. -/
theorem take_drop_flatten {α β : Type} {f : α → List β} {n : Nat} (hf : ∀ a, (f a).length = n) (before after : List α) (a : α) :
    (((before ++ a :: after).map f).flatten.drop (n * before.length)).take n = f a := by
  rw [List.map_append, List.flatten_append, ← length_flatten_map hf before, List.drop_left, List.map_cons,
    List.flatten_cons, ← hf a, List.take_left]

/-- The eleven bytes at a position of a burst are those of its entry there. -/
theorem entryAt_bytes {b : Burst} {before after : List Entry} {e : Entry} (h : b.entries = before ++ e :: after) :
    entryAt b.bytes (before.length + 1) = e.bytes b.district := by
  rw [entryAt, Nat.add_sub_cancel, Burst.bytes, ← length_header b, ← List.drop_drop, List.drop_left, h]
  exact take_drop_flatten (length_entryBytes b.district) before after e

theorem kit_entryBytes {e : Entry} (h : e.kit ≤ 4095) (district : Nat) : field (e.bytes district) 0 2 = e.kit :=
  (beNat_be2 e.kit).trans (Nat.mod_eq_of_lt (by omega))

/-- A kit accepts the entry that names it and is encoded with its code in its district (R105). -/
theorem accepts_own {k : RadioKit} {e : Entry} (hkit : e.kit = k.number) (hn : k.number ≤ 4095) (hcode : e.code = k.code) :
    k.accepts (e.bytes k.district) = true := by
  have hcheck : crcBytes (be4 e.code.toNat ++ be2 k.district ++ (e.bytes k.district).take 9) = (e.bytes k.district).drop 9 :=
    rfl
  rw [RadioKit.accepts, kit_entryBytes (hkit ▸ hn), hkit, ← hcode, hcheck, beq_self_eq_true, beq_self_eq_true]
  rfl

/-- A kit accepts no entry that names another. -/
theorem accepts_other {k : RadioKit} {e : Entry} (hkit : e.kit ≠ k.number) (he : e.kit ≤ 4095) (district : Nat) :
    k.accepts (e.bytes district) = false := by
  rw [RadioKit.accepts, kit_entryBytes he, beq_false_of_ne hkit, Bool.false_and]

/-- The first position a kit reads as its own is that of the first entry that names it. -/
theorem head_positions {k : RadioKit} {b : Burst} {before after : List Entry} {e : Entry}
    (hentries : b.entries = before ++ e :: after) (hlen : b.entries.length ≤ 6)
    (hown : k.accepts (e.bytes b.district) = true)
    (hbefore : ∀ e' ∈ before, k.accepts (e'.bytes b.district) = false) :
    (k.positions b.bytes).head? = some (before.length + 1) := by
  have hcount : b.entries.length = before.length + (after.length + 1) := by rw [hentries, List.length_append]; rfl
  have hnone : (List.range before.length).findSome? (fun i =>
      if k.accepts (entryAt b.bytes (i + 1)) then some (i + 1) else none) = none := by
    rw [List.findSome?_eq_none_iff]
    intro i hi
    have hi := List.mem_range.1 hi
    have hsplit : b.entries = before.take i ++ before[i] :: (before.drop (i + 1) ++ e :: after) := by
      rw [hentries, ← List.cons_append, ← List.drop_eq_getElem_cons hi, ← List.append_assoc, List.take_append_drop]
    have hentry := entryAt_bytes hsplit
    rw [List.length_take, Nat.min_eq_left hi.le] at hentry
    rw [hentry, hbefore _ (List.getElem_mem hi)]
    rfl
  rw [RadioKit.positions, entryCount_bytes hlen, hcount, List.head?_filterMap, List.range_add, List.findSome?_append, hnone,
    Option.none_or, List.range_succ_eq_map, List.map_cons, List.findSome?_cons, Nat.add_zero, entryAt_bytes hentries, hown]
  rfl

/-- Adopting an entry takes its whole order when it is newer, and nothing otherwise (R105). -/
theorem adopt_entryBytes {k : RadioKit} {e : Entry} (hh : e.horizon ≤ 16777215) (hs : e.slot ≤ 119) (district : Nat) :
    k.adopt (e.bytes district) =
      if newerThan e.issue k.issue then
        { k with issue := e.issue, horizon := e.horizon, listen := e.slot, held := e.held }
      else k := by
  have hissue : BitVec.ofNat 16 (field (e.bytes district) 2 2) = e.issue := ofNat_beNat_issue e.issue
  have hhorizon : field (e.bytes district) 4 3 = e.horizon :=
    (beNat_be3 e.horizon).trans (Nat.mod_eq_of_lt (by omega))
  have hslot : field (e.bytes district) 7 1 = e.slot := (beNat_be1 e.slot).trans (Nat.mod_eq_of_lt (by omega))
  have hheld : bitAt (field (e.bytes district) 8 1) 0 = e.held := by
    have hbyte : field (e.bytes district) 8 1 = e.held.toNat % 256 := beNat_be1 e.held.toNat
    rw [hbyte]
    cases e.held <;> rfl
  rw [RadioKit.adopt, hissue, hhorizon, hslot, hheld]

/-- Settles O18: the header is one for the kit, its first position is that of its entry, and that entry's bytes hold the
order. -/
theorem kitAdoptsTheNewerOrderOfItsEntry : Obligations.KitAdoptsTheNewerOrderOfItsEntry := by
  intro k b before after e hentries hlen hdistrict hk hdh hkit hn hcode hhorizon hslot hbefore heard held
  have hhead : (({ k with hour := b.dh } : RadioKit).positions b.bytes).head? = some (before.length + 1) :=
    head_positions hentries hlen (hdistrict ▸ accepts_own hkit hn hcode)
      fun e' he' => accepts_other (hbefore e' he').1 (hbefore e' he').2 _
  have hadopt : ({ k with hour := b.dh } : RadioKit).adopt (e.bytes b.district) = held :=
    adopt_entryBytes hhorizon hslot b.district
  have hanswers : held.answers = k.answers := by
    show (if newerThan e.issue k.issue then _ else _ : RadioKit).answers = _
    split <;> rfl
  have hheard : heard = (held, if held.answers && !b.hold then some (before.length + 1, held.reply) else none) := by
    show k.hear b.bytes = _
    simp only [RadioKit.hear, hears_bytes hdistrict hk hlen, if_true, hour_bytes hdh, hhead, entryAt_bytes hentries, hadopt,
      hold_bytes hlen]
  rw [hheard, hanswers]
  exact ⟨rfl, rfl⟩

end Sys2Proof.Proofs
end

section
/-! PROOFS. SLOT_START with a READY burst: the buffer on air, the counters, the roll that opens and the framer (R97, R102, R103,
R107). -/

namespace Sys2Proof.Proofs

open Sys2Proof Sys2Proof.Machine Sys2Proof.Laws

/-! ### The counters (R97, R172) -/

/-- Of the counters the count of an entry moves AUDITS only. -/
theorem counters_countEntry (hold : Bool) (e : Entry) (s : State) :
    (s.countEntry hold e).1.link.counters =
      { s.link.counters with audits := (s.countEntry hold e).1.link.counters.audits } := by
  obtain ⟨-, he⟩ | ⟨r, -, -, he⟩ := countEntry_cases hold e s
  · rw [he]
  · rw [he, counters_postAll, State.auditRaised]
    split <;> rfl

theorem counters_countEntries (hold : Bool) (es : List Entry) (s : State) :
    (State.countEntries hold es s).1.link.counters =
      { s.link.counters with audits := (State.countEntries hold es s).1.link.counters.audits } := by
  induction es generalizing s with
  | nil => rfl
  | cons e es ih =>
    rw [countEntries_cons, ih, counters_countEntry]

/-- What a burst that goes on air makes of the counters (R97). -/
structure BurstTallied (entries stale : Nat) (c d : Counters) : Prop where
  bursts       : d.bursts = min (c.bursts + 1) 65535
  headerBursts : d.headerBursts = if entries = 0 then min (c.headerBursts + 1) 65535 else c.headerBursts
  entries      : d.entries = min (c.entries + entries) 65535
  staleEntries : d.staleEntries = min (c.staleEntries + stale) 65535

theorem burstTallied_countBurst (entries stale : Nat) (c : Counters) (audits : Nat) :
    BurstTallied entries stale c (countBurst entries stale { c with audits := audits }) := by
  unfold countBurst
  by_cases h : entries = 0
  · exact ⟨by simp [h, Counters.raise], by simp [h, Counters.raise], by simp [h, Counters.raise],
      by simp [h, Counters.raise]⟩
  · exact ⟨by simp [h, Counters.raise], by simp [h, Counters.raise], by simp [h, Counters.raise],
      by simp [h, Counters.raise]⟩

/-- How many of a burst's entries are stale as they are counted. -/
def State.staleCount (b : Burst) (s : State) : Nat :=
  ((State.burstPositions b s).filter fun p => p.outcome == .stale).length

/-- The roll that opens, and the one that closes for it, leave the counters. -/
theorem counters_rollOpened (b : Burst) (s : State) :
    (State.rollOpened b s).link.counters = (State.burstCounted b s).link.counters := by
  unfold State.rollOpened
  split
  · rfl
  · rw [openRoll_roomForRoll, onBuilder_link, State.roomForRoll]
    split
    · split
      · exact (kept_closeRoll _ _).counters
      · rfl
    · rfl

theorem burstTallied_goOnAir (b : Burst) (s : State) :
    BurstTallied b.entries.length (State.staleCount b s) s.link.counters (s.goOnAir b).link.counters := by
  have hcounters : (s.goOnAir b).link.counters =
      countBurst b.entries.length (State.staleCount b s) (State.rollOpened b s).link.counters := rfl
  rw [hcounters, counters_rollOpened, State.burstCounted, counters_countEntries]
  exact burstTallied_countBurst _ _ _ _

/-! ### The positions and the rolls (R102, R103) -/

/-- Each position of a roll is of its entry's kit and issue, and unanswered. -/
theorem named_countEntries (hold : Bool) (es : List Entry) (s : State) :
    (State.countEntries hold es s).2.map (fun p => (p.kit, p.issue, p.answered)) = es.map fun e => (e.kit, e.issue, false) := by
  induction es generalizing s with
  | nil => rfl
  | cons e es ih =>
    rw [countEntries_cons, List.map_cons, ih, countEntry_position]
    rfl

/-- The rolls that stay open when a new one is to open: of two the older one closes (R103). -/
def rollsLeft (rolls : List Roll) : List Roll :=
  match rolls with
  | oldest :: _ => if rollCapacity ≤ rolls.length then rolls.filter fun q => q.id != oldest.id else rolls
  | [] => []

theorem rollsLeft_of_lt {rolls : List Roll} (h : rolls.length < 2) : rollsLeft rolls = rolls := by
  cases rolls with
  | nil => rfl
  | cons oldest rest => exact if_neg (Nat.not_le.2 h)

theorem rollsLeft_two {oldest other : Roll} (h : oldest.id ≠ other.id) : rollsLeft [oldest, other] = [other] := by
  simp [rollsLeft, h.symm]

theorem builder_roomForRoll (s : State) :
    (State.roomForRoll s).builder = { s.builder with rolls := rollsLeft s.builder.rolls } := by
  unfold State.roomForRoll rollsLeft
  cases hrolls : s.builder.rolls with
  | nil => simp [← hrolls]
  | cons oldest rest =>
    dsimp only
    split
    · rw [builder_closeRoll, hrolls]
    · rw [← hrolls]

/-- The roll a burst opens, with this number and these positions (R102). -/
def rollOfBurst (b : Burst) (id : Nat) (ps : List Position) : Roll where
  id := id
  slot := b.slot
  cycle := b.targetCycle
  hold := b.hold
  windowEnded := false
  positions := ps

/-- The builder as a burst's buffer goes on air (R97). -/
def Builder.sending (b : Burst) (q : Builder) : Builder := { q with ready := none, onAir := some b }

theorem builder_burstCounted (b : Burst) (s : State) : (State.burstCounted b s).builder = Builder.sending b s.builder := by
  rw [State.burstCounted, builder_countEntries]
  rfl

/-- A header-only burst opens no roll, and changes no record and no list. -/
theorem goOnAir_headerOnly {b : Burst} (h : b.entries = []) (s : State) :
    (s.goOnAir b).builder = Builder.sending b s.builder ∧ (s.goOnAir b).roster = s.roster ∧
      (s.goOnAir b).scheduler.lists = s.scheduler.lists := by
  obtain ⟨hbooks, hbuilder⟩ := goOnAir_rollOpened b s
  have hopened : State.rollOpened b s = State.burstCounted b s := if_pos (by rw [h]; rfl)
  have hcounted : State.burstCounted b s = State.burstTaken b s := by rw [State.burstCounted, h]; rfl
  rw [hbuilder, hbooks.roster, hbooks.lists, hopened, hcounted]
  exact ⟨rfl, rfl, rfl⟩

/-- A burst with entries opens a roll of its positions behind those that are left (R102, R103). -/
theorem goOnAir_roll {b : Burst} (h : b.entries ≠ []) (s : State) :
    (s.goOnAir b).builder = { Builder.sending b s.builder with
      rolls := rollsLeft s.builder.rolls ++ [rollOfBurst b s.builder.nextRoll (State.burstPositions b s)]
      nextRoll := s.builder.nextRoll + 1
      slotRoll := some s.builder.nextRoll } := by
  have hopened : State.rollOpened b s = (State.burstCounted b s).openRoll b (State.burstPositions b s) :=
    if_neg (by simpa using h)
  rw [(goOnAir_rollOpened b s).2, hopened, openRoll_roomForRoll, onBuilder_builder, builder_roomForRoll, builder_burstCounted]
  rfl

/-- The buffers after a burst went on air (R97). -/
theorem buffers_goOnAir (b : Burst) (s : State) : (s.goOnAir b).builder.onAir = some b ∧
    (s.goOnAir b).builder.ready = none ∧ (s.goOnAir b).builder.preparing = s.builder.preparing := by
  by_cases h : b.entries = []
  · rw [(goOnAir_headerOnly h s).1]
    exact ⟨rfl, rfl, rfl⟩
  · rw [goOnAir_roll h]
    exact ⟨rfl, rfl, rfl⟩

/-- The idle counter of the burst's slot is cleared (R97). -/
theorem idle_goOnAir (b : Burst) (s : State) : lookupAt 0 (s.goOnAir b).scheduler.idle b.slot = 0 := by
  show lookupAt 0 (setAt 0 b.slot 0 _) b.slot = 0
  rw [lookupAt_setAt, if_pos rfl]

/-- Settles O9: the slot opens, the burst goes on air, and the framer is set. -/
theorem slotStartSendsTheReadyBurst : Obligations.SlotStartSendsTheReadyBurst := by
  intro s b ht hop hready hslot
  refine ⟨_, exec_slotStart ht, ?_⟩
  rw [slotOpened_sends hop hready hslot]
  have kept := (airActs_goOnAir b (State.slotOpened s)).kept
  have tallied := burstTallied_goOnAir b (State.slotOpened s)
  obtain ⟨honAir, hnone, hpreparing⟩ := buffers_goOnAir b (State.slotOpened s)
  have hclock : ((State.slotOpened s).goOnAir b).clock = s.clock.atSlotStart := kept.clock
  have hfifo : ((State.slotOpened s).goOnAir b).framer.fifo = s.framer.fifo := congrArg Framer.fifo kept.framer
  refine ⟨congrArg Option.isSome honAir, honAir, hnone, hpreparing, hclock,
    fun h hd => hclock.trans (atSlotStart_boundary h hd), fun h => hclock.trans (atSlotStart_early h),
    idle_goOnAir b (State.slotOpened s), tallied.bursts, ?_, tallied.entries, fun hb => ?_, fun hb => ?_, ?_,
    kept.store, kept.settings, kept.walk, kept.handler, ?_, kept.hand, kept.replies, kept.stored⟩
  case refine_1 =>
    have hheader := tallied.headerBursts
    simp only [List.length_eq_zero_iff] at hheader
    exact hheader
  case refine_2 =>
    obtain ⟨hbuilder, hroster, hlists⟩ := goOnAir_headerOnly hb (State.slotOpened s)
    have hrolls : ((State.slotOpened s).goOnAir b).builder.rolls = s.builder.rolls := by
      rw [hbuilder]
      rfl
    have hnoStale : State.staleCount b (State.slotOpened s) = 0 := by
      rw [State.staleCount, State.burstPositions, hb]
      rfl
    have hstale := tallied.staleEntries
    rw [hnoStale] at hstale
    exact ⟨hrolls, hstale, hroster, hlists⟩
  case refine_3 =>
    have hbuilder := goOnAir_roll hb (State.slotOpened s)
    refine ⟨rollOfBurst b s.builder.nextRoll (State.burstPositions b (State.slotOpened s)),
      congrArg Builder.slotRoll hbuilder, rfl, rfl, rfl, rfl, named_countEntries _ _ _, tallied.staleEntries,
      fun hlt => (congrArg Builder.rolls hbuilder).trans ?_,
      fun oldest other hrolls hne => (congrArg Builder.rolls hbuilder).trans ?_⟩
    · show rollsLeft s.builder.rolls ++ _ = _
      rw [rollsLeft_of_lt hlt]
      rfl
    · show rollsLeft s.builder.rolls ++ _ = _
      rw [hrolls, rollsLeft_two hne]
      rfl
  case refine_4 =>
    show (if ((State.slotOpened s).goOnAir b).link.op = .onAir ∧ ((State.slotOpened s).goOnAir b).settings.uplink = true
      then _ else _) = _
    rw [kept.op, kept.settings]
    simp only [show (State.slotOpened s).link.op = .onAir from hop, true_and]
    rfl
  case refine_5 => exact hfifo

end Sys2Proof.Proofs
end

section
/-! PROOFS. RECEIPT_HANDLE on a frame that is accepted: the notices it posts and the requests it asks the dirty queue for (R119 to
R125, R136, R168). -/

namespace Sys2Proof.Proofs

open Sys2Proof Sys2Proof.Machine Sys2Proof.Laws

/-! ### Notices of one kit (R168) -/

/-- Where the queue has room for them, notices of these kinds of kit `k` joined its tail in this order, and the clock stands. -/
structure Posts (k : Nat) (kinds : List NoticeKind) (s t : State) : Prop where
  clock   : t.clock = s.clock
  notices : s.link.notices.length + kinds.length ≤ 32 →
    t.link.notices = s.link.notices ++ s.clock.stamp (kinds.map (·, k))

theorem Posts.of_eq {k : Nat} {s t : State} (hc : t.clock = s.clock) (hn : t.link.notices = s.link.notices) :
    Posts k [] s t := ⟨hc, fun _ => hn.trans (List.append_nil _).symm⟩

theorem posts_post (k : Nat) (kind : NoticeKind) (s : State) : Posts k [kind] s (s.post kind (some k)) :=
  ⟨rfl, fun h => post_notices (Nat.lt_of_succ_le h) kind (some k)⟩

theorem Posts.trans {k : Nat} {kinds kinds' : List NoticeKind} {s t u : State} (h : Posts k kinds s t)
    (h' : Posts k kinds' t u) : Posts k (kinds ++ kinds') s u := by
  refine ⟨h'.clock.trans h.clock, fun hroom => ?_⟩
  rw [List.length_append] at hroom
  have hfirst := h.notices (by omega)
  have hroom' : t.link.notices.length + kinds'.length ≤ 32 := by
    rw [hfirst, List.length_append, Clock.stamp, List.length_map, List.length_map]
    omega
  rw [h'.notices hroom', hfirst, h.clock, List.append_assoc]
  simp only [Clock.stamp, List.map_append]

/-- A post that may be made. -/
theorem posts_post_if {c : Bool} {P : Prop} [Decidable P] (hc : c = true ↔ P) (k : Nat) {kind kind' : NoticeKind}
    (hkind : P → kind' = kind) (s : State) :
    Posts k (if P then [kind] else []) s (if c then s.post kind' (some k) else s) := by
  by_cases h : P
  · rw [if_pos h, if_pos (hc.2 h), hkind h]
    exact posts_post k kind s
  · rw [if_neg h, if_neg (mt hc.1 h)]
    exact .of_eq rfl rfl

/-! ### What an accepted receipt posts (R119 to R121, R123) -/

/-- The tamper run is taken to the mark exactly by a lid open that raises it there from below (R121). -/
theorem tamperHit_iff (g : Settings) (lid : Bool) (run : Nat) : tamperHit g lid run = true ↔
    lid = true ∧ 0 < g.tamperMark ∧ run < g.tamperMark ∧ min (run + 1) 15 = g.tamperMark := by
  cases lid with
  | true => simp [tamperHit, tamperAfter, satSucc, and_assoc]
  | false =>
    simp only [tamperHit, tamperAfter, Bool.and_eq_true, decide_eq_true_eq, beq_iff_eq, Bool.false_eq_true, if_false,
      false_and, iff_false]
    omega

/-- The notices of the reading of a held issue: DELIVERED for a pending kit that confirms with notify set, ANOMALY for a reading
ahead (R119, R120). -/
def readingKinds (held : Issue) (r : KitRec) : List NoticeKind :=
  (if (r.issue - held).toNat = 0 ∧ r.settled = false ∧ r.notify = true then [.delivered r.issue true] else []) ++
    (if 32768 ≤ (r.issue - held).toNat then [.anomaly held r.issue] else [])

theorem readingKinds_current {held : Issue} {r : KitRec} (h : (r.issue - held).toNat = 0) :
    readingKinds held r = if r.settled = false ∧ r.notify = true then [.delivered r.issue true] else [] := by
  simp [readingKinds, h]

theorem readingKinds_behind {held : Issue} {r : KitRec} (h : 1 ≤ (r.issue - held).toNat)
    (h' : (r.issue - held).toNat ≤ 32767) : readingKinds held r = [] := by
  rw [readingKinds, if_neg fun hd => by omega, if_neg (by omega), List.append_nil]

theorem readingKinds_ahead {held : Issue} {r : KitRec} (h : 32768 ≤ (r.issue - held).toNat) :
    readingKinds held r = [.anomaly held r.issue] := by
  rw [readingKinds, if_neg fun hd => by omega, if_pos h, List.nil_append]

/-- A kit that settles by a receipt posts DELIVERED if it is owed (R25, R119). -/
theorem posts_settleKit (k : Nat) (r : KitRec) (s : State) :
    Posts k (if r.notify = true then [.delivered r.issue true] else []) s (s.settleKit k r true) := by
  have hput : Posts k [] s (s.putKit k (.enrolled { r with confirmed := some r.issue, settled := true, notify := false })) :=
    .of_eq rfl rfl
  exact hput.trans (posts_post_if Iff.rfl k (fun _ => rfl) _)

theorem posts_applyReading (k : Nat) (held : Issue) (r : KitRec) (s : State) :
    Posts k (readingKinds held r) s (s.applyReading k held r) := by
  by_cases hcurrent : (r.issue - held).toNat = 0
  · have hraise : Posts k [] s (s.raise .confirmed) := .of_eq rfl rfl
    rw [State.applyReading, readIssue_current hcurrent, readingKinds_current hcurrent]
    cases hs : r.settled with
    | true => exact .of_eq rfl rfl
    | false =>
      simp only [true_and, Bool.false_eq_true, if_false]
      exact hraise.trans (posts_settleKit k r _)
  · have hpos : 1 ≤ (r.issue - held).toNat := Nat.pos_of_ne_zero hcurrent
    by_cases hbehind : (r.issue - held).toNat ≤ 32767
    · rw [State.applyReading, readIssue_behind hpos hbehind, readingKinds_behind hpos hbehind]
      exact .of_eq rfl rfl
    · have hahead : 32768 ≤ (r.issue - held).toNat := by omega
      have hput : Posts k [] s ((s.putKit k (.enrolled r)).raise .ahead) := .of_eq rfl rfl
      rw [State.applyReading, readIssue_ahead hahead, readingKinds_ahead hahead]
      exact hput.trans (posts_post k _ _)

/-- The receipt's lid takes the tamper run from below the mark to the mark (R121). -/
abbrev tampers (g : Settings) (f : Frame) (r : KitRec) : Prop :=
  (receiptStatus f.bytes).lid = true ∧ 0 < g.tamperMark ∧ r.tamper < g.tamperMark ∧ min (r.tamper + 1) 15 = g.tamperMark

/-- The notices of an accepted receipt, in the order of their posting: TAMPER, USAGE, and those of its reading. -/
def receiptKinds (g : Settings) (f : Frame) (r : KitRec) : List NoticeKind :=
  (if tampers g f r then [.tamper (min (r.tamper + 1) 15) (receiptStatus f.bytes)] else []) ++
    (if g.usageNotices = true then [.usage (receiptUsage f.bytes) (receiptStatus f.bytes)] else []) ++
    readingKinds (receiptIssue f.bytes) r

theorem tamper_heardRec {f : Frame} (h : (receiptStatus f.bytes).lid = true) (r : KitRec) :
    (heardRec f r).tamper = min (r.tamper + 1) 15 := by
  show tamperAfter (receiptStatus f.bytes).lid r.tamper = _
  rw [h]
  rfl

theorem posts_receiptNoted (roll : Roll) (k : Nat) (f : Frame) (r : KitRec) (s : State) :
    let st := receiptStatus f.bytes
    Posts k ((if tampers s.settings f r then [.tamper (min (r.tamper + 1) 15) st] else []) ++
        (if s.settings.usageNotices = true then [.usage (receiptUsage f.bytes) st] else [])) s
      (State.receiptNoted roll k f r s) := by
  intro st
  have hanswered : Posts k [] s (s.onBuilder fun b => { b with rolls := markAnswered roll.id f.position b.rolls }) :=
    .of_eq rfl rfl
  have htamper := hanswered.trans (posts_post_if (tamperHit_iff s.settings st.lid r.tamper) k
    (fun h => congrArg (NoticeKind.tamper · st) (tamper_heardRec h.1 r)) _)
  refine htamper.trans ?_
  have hsettings (c : Bool) (n : NoticeKind) (u : State) : (if c then u.post n (some k) else u).settings = u.settings := by
    cases c <;> rfl
  unfold State.receiptNoted
  dsimp only
  rw [hsettings]
  exact posts_post_if Iff.rfl k (fun _ => rfl) _

theorem posts_receiptHeard (roll : Roll) (k : Nat) (f : Frame) (r : KitRec) (s : State) :
    Posts k (receiptKinds s.settings f r) s (State.receiptHeard roll k f r s) :=
  (posts_receiptNoted roll k f r s).trans (posts_applyReading k (receiptIssue f.bytes) (heardRec f r) _)

/-! ### What an accepted receipt asks for (R122, R124, R125, R136) -/

/-- The receipt gives evidence that a pending move is done: its roll is of the ordered slot, or it holds an issue at or after
the move issue and not ahead (R124, R136). -/
theorem moveEvidence_iff (roll : Roll) (held : Issue) (r : KitRec) : moveEvidence roll held r = true ↔
    ∃ mi, r.moveIssue = some mi ∧
      (roll.slot = r.ordered ∨ ((held - mi).toNat ≤ 32767 ∧ (r.issue - held).toNat ≤ 32767)) := by
  have hread : (readIssue held r.issue != .ahead) = true ↔ (r.issue - held).toNat ≤ 32767 := by
    rw [bne_iff_ne, readIssue, issueDistance]
    split
    · exact iff_of_true nofun (by omega)
    · split
      · exact iff_of_true nofun ‹_›
      · exact iff_of_false (fun h => h rfl) ‹_›
  cases hmi : r.moveIssue with
  | none => simp [moveEvidence, hmi]
  | some mi => 
    have hmove : atOrAfter held mi = true ↔ (held - mi).toNat ≤ 32767 := decide_eq_true_iff
    simp only [moveEvidence, hmi, Bool.or_eq_true, Bool.and_eq_true, beq_iff_eq, hmove, hread, Option.some.injEq,
      exists_eq_left']

/-- The receipt has a pending move completed (R124, R136). -/
abbrev completes (roll : Roll) (f : Frame) (r : KitRec) : Prop :=
  ∃ mi, r.moveIssue = some mi ∧ (roll.slot = r.ordered ∨
    ((receiptIssue f.bytes - mi).toNat ≤ 32767 ∧ (r.issue - receiptIssue f.bytes).toNat ≤ 32767))

/-- The receipt has an ACTIVE kit withdrawn under auto-hold (R122). -/
abbrev withdraws (g : Settings) (f : Frame) (r : KitRec) : Prop :=
  tampers g f r ∧ g.autoHold = true ∧ r.heldHours = none

theorem withdrawal_iff (g : Settings) (f : Frame) (r : KitRec) :
    (tamperHit g (receiptStatus f.bytes).lid r.tamper && g.autoHold && r.active) = true ↔ withdraws g f r := by
  rw [Bool.and_eq_true, Bool.and_eq_true, tamperHit_iff, and_assoc, KitRec.active, Option.isNone_iff_eq_none]

theorem receiptRequests_eq {s : State} (h : s.link.op ≠ .faulted) (roll : Roll) (k : Nat) (f : Frame) (r : KitRec) :
    s.receiptRequests roll k f r =
      (if moveEvidence roll (receiptIssue f.bytes) r then [.completeMove k] else []) ++
      (if tamperHit s.settings (receiptStatus f.bytes).lid r.tamper && s.settings.autoHold && r.active
        then [.tamperHold k] else []) := if_neg h

section
variable {s : State} {roll : Roll} {f : Frame} {r : KitRec} (k : Nat)

theorem receiptRequests_none
    (h : s.link.op = .faulted ∨ (¬ completes roll f r ∧ ¬ withdraws s.settings f r)) :
    s.receiptRequests roll k f r = [] := by
  by_cases hf : s.link.op = .faulted
  · exact if_pos hf
  · obtain ⟨hm, hh⟩ := h.resolve_left hf
    rw [receiptRequests_eq hf, if_neg (mt (moveEvidence_iff _ _ _).1 hm), if_neg (mt (withdrawal_iff _ _ _).1 hh)]
    rfl

theorem receiptRequests_move (hf : s.link.op ≠ .faulted) (hm : completes roll f r) (hh : ¬ withdraws s.settings f r) :
    s.receiptRequests roll k f r = [.completeMove k] := by
  rw [receiptRequests_eq hf, if_pos ((moveEvidence_iff _ _ _).2 hm), if_neg (mt (withdrawal_iff _ _ _).1 hh)]
  rfl

theorem receiptRequests_hold (hf : s.link.op ≠ .faulted) (hm : ¬ completes roll f r) (hh : withdraws s.settings f r) :
    s.receiptRequests roll k f r = [.tamperHold k] := by
  rw [receiptRequests_eq hf, if_neg (mt (moveEvidence_iff _ _ _).1 hm), if_pos ((withdrawal_iff _ _ _).2 hh)]
  rfl

/-- The completion is made first and the withdrawal after it (R124). -/
theorem receiptRequests_both (hf : s.link.op ≠ .faulted) (hm : completes roll f r) (hh : withdraws s.settings f r) :
    s.receiptRequests roll k f r = [.completeMove k, .tamperHold k] := by
  rw [receiptRequests_eq hf, if_pos ((moveEvidence_iff _ _ _).2 hm), if_pos ((withdrawal_iff _ _ _).2 hh)]
  rfl

end

/-! ### The end of the receipt (R115, R124) -/

/-- With no request made the frame is finished (R115). -/
theorem acceptReceipt_nil {s : State} {roll : Roll} {k : Nat} {f : Frame} {r : KitRec}
    (h : s.receiptRequests roll k f r = []) :
    s.acceptReceipt roll k f r = (State.receiptHeard roll k f r s).finishFrame := by
  obtain ⟨-, he⟩ | ⟨q, rest, hq, -⟩ := acceptReceipt_cases s roll k f r
  · exact he
  · cases h.symm.trans hq

/-- With a request made the handler is STALLED on it (R124). -/
theorem acceptReceipt_cons {s : State} {roll : Roll} {k : Nat} {f : Frame} {r : KitRec} {q : HandlerReq}
    {rest : List HandlerReq} (h : s.receiptRequests roll k f r = q :: rest) :
    s.acceptReceipt roll k f r = (State.receiptHeard roll k f r s).setHandler (.stalled q rest.head?) := by
  obtain ⟨hq, -⟩ | ⟨q', rest', hq, he⟩ := acceptReceipt_cases s roll k f r
  · cases h.symm.trans hq
  · cases h.symm.trans hq
    exact he

/-- What was posted as the receipt was heard stays, whatever rolls then close. -/
theorem notices_acceptReceipt (s : State) (roll : Roll) (k : Nat) (f : Frame) (r : KitRec) :
    (State.receiptHeard roll k f r s).link.notices <+: (s.acceptReceipt roll k f r).link.notices := by
  obtain ⟨-, h⟩ | ⟨q, rest, -, h⟩ := acceptReceipt_cases s roll k f r <;> rw [h]
  · exact (airActs_finishFrame _).kept.notices
  · exact List.prefix_rfl

theorem finishFrame_takes (s : State) : s.finishFrame.handler = .idle ∧ s.finishFrame.framer.fifo = s.framer.fifo.tail :=
  have h := (airActs_finishFrame s).kept
  ⟨h.handler, congrArg Framer.fifo h.framer⟩

/-- Settles O21: the notices are those of the receipt heard, and the frame's end follows from the list of its requests. -/
theorem acceptedReceiptPostsAndAsks : Obligations.AcceptedReceiptPostsAndAsks := by
  intro s f rest roll p r hl hop hidle hfifo hroll hdistrict h1 hp hkit hk hgood k held st d hits kinds moves holds
  have hj := judge_accepted hroll hdistrict h1 hp hkit hk hgood
  have hheard : (State.receiptHeard roll k f r s).framer.fifo = f :: rest :=
    (congrArg Framer.fifo (airActs_receiptHeard hk roll f).kept.framer).trans hfifo
  have hkinds : kinds = receiptKinds s.settings f r := List.append_assoc _ _ _
  have hnone (hreq : s.receiptRequests roll k f r = []) : (s.acceptReceipt roll k f r).handler = .idle ∧
      (s.acceptReceipt roll k f r).framer.fifo = rest := by
    obtain ⟨hhandler, htail⟩ := finishFrame_takes (State.receiptHeard roll k f r s)
    rw [acceptReceipt_nil hreq]
    exact ⟨hhandler, htail.trans (congrArg List.tail hheard)⟩
  have hsome {q : HandlerReq} {qs : List HandlerReq} (hreq : s.receiptRequests roll k f r = q :: qs) :
      (s.acceptReceipt roll k f r).handler = .stalled q qs.head? ∧
        (s.acceptReceipt roll k f r).framer.fifo = f :: rest := by
    rw [acceptReceipt_cons hreq]
    exact ⟨rfl, hheard⟩
  refine ⟨_, exec_receiptHandle_accepted hl hop hidle hfifo hj, fun hroom => ?_, fun h => hnone (receiptRequests_none k h),
    fun hf hasks => ?_, fun hf hm hh => (hsome (receiptRequests_move k hf hm hh)).1,
    fun hf hm hh => (hsome (receiptRequests_hold k hf hm hh)).1,
    fun hf hm hh => (hsome (receiptRequests_both k hf hm hh)).1⟩
  · have hposts := (posts_receiptHeard roll k f r s).notices (hkinds ▸ hroom)
    rw [hkinds]
    rw [Clock.stamp, List.map_map] at hposts
    exact hposts ▸ notices_acceptReceipt s roll k f r
  · by_cases hm : moves
    · by_cases hh : holds
      · exact (hsome (receiptRequests_both k hf hm hh)).2
      · exact (hsome (receiptRequests_move k hf hm hh)).2
    · exact (hsome (receiptRequests_hold k hf hm (hasks.resolve_left hm))).2

end Sys2Proof.Proofs
end

section
/-! PROOFS. The uplink framer: the start of a sub-window, the bytes and byte errors of one, and the frame that the eleventh byte
completes (R107 to R112). -/

namespace Sys2Proof.Proofs

open Sys2Proof Sys2Proof.Machine Sys2Proof.Laws

/-! ### The start of a sub-window (R107, R108, R110) -/

theorem exec_replySubWindowStart {s : State} (h : s.timed = true) (k : Nat) :
    exec (.replySubWindowStart k) s = .next (s.takeSubWindowStart k) := by
  show execReplySubWindowStart k s = _
  rw [execReplySubWindowStart, if_pos h]

/-- A sub-window's close counts a frame still being taken as short (R110). -/
theorem closeSubWindow_taking {s : State} {w : Window} {bs : List Byte} (hw : s.framer.window = some w)
    (hm : w.mode = .listening (.taking bs)) : s.closeSubWindow = s.raise .short := by
  have htaking : w.isTaking = true := by rw [Window.isTaking, hm]
  rw [State.closeSubWindow, hw]
  exact if_pos htaking

/-- With no frame being taken the close does nothing (R110). -/
theorem closeSubWindow_idle {s : State} (h : ∀ w bs, s.framer.window = some w → w.mode ≠ .listening (.taking bs)) :
    s.closeSubWindow = s := by
  unfold State.closeSubWindow
  split
  · rename_i w hw
    refine if_neg fun ht => ?_
    unfold Window.isTaking at ht
    split at ht
    · rename_i bs hm
      exact h w bs hw hm
    · cases ht
  · rfl

theorem closeSubWindow_link_eq (s : State) :
    s.closeSubWindow.link = match s.framer.window.map Window.mode with
      | some (.listening (.taking _)) => s.link.raised .short
      | _ => s.link := by
  split
  · rename_i bs hm
    obtain ⟨w, hw, hm⟩ := Option.map_eq_some_iff.1 hm
    rw [closeSubWindow_taking hw hm]
    rfl
  · rename_i hne
    rw [closeSubWindow_idle fun w bs hw hm => hne bs (by rw [hw, Option.map_some, hm])]

/-- What the start of a sub-window changes: the timer, the framer, and the count of a short frame. -/
theorem takeSubWindowStart_eq (k : Nat) (s : State) : s.takeSubWindowStart k =
    { s with
      clock := { s.clock with timer := .reply k }
      framer := (s.takeSubWindowStart k).framer
      link := (s.takeSubWindowStart k).link } := by
  unfold State.takeSubWindowStart
  rcases closeSubWindow_cases s with h | h <;> rw [h] <;> rfl

theorem link_takeSubWindowStart (k : Nat) (s : State) : (s.takeSubWindowStart k).link = s.closeSubWindow.link := rfl

theorem startSub_eq (k : Nat) (w : Window) : w.startSub k =
    { w with sub := k, mode := if w.mode = .dropping then .dropping else .listening .searching } := by
  unfold Window.startSub
  cases w.mode <;> rfl

/-- A window to be searched is entered LISTENING and SEARCHING (R107). -/
theorem framer_subWindowStart_armed {s : State} {slot cycle : Nat} (h : s.framer.armed = some (slot, cycle)) (k : Nat) :
    (s.takeSubWindowStart k).framer = { s.framer with
      armed := none
      window := some { slot := slot, cycle := cycle, roll := s.builder.slotRoll, sub := k, mode := .listening .searching } } := by
  unfold State.takeSubWindowStart
  rcases closeSubWindow_cases s with hc | hc <;> rw [hc] <;> simp [h]

/-- In a window already entered, or outside any, the framer goes on with what it holds (R108, R112). -/
theorem framer_subWindowStart_entered {s : State} (h : s.framer.armed = none) (k : Nat) :
    (s.takeSubWindowStart k).framer = { s.framer with window := s.framer.window.map (Window.startSub k) } := by
  unfold State.takeSubWindowStart
  rcases closeSubWindow_cases s with hc | hc <;> rw [hc] <;> simp [h]

/-- Settles O13: the sub-window before is closed, and the framer enters the window, goes on in it, or holds none. -/
theorem subWindowStartSearchesAnew : Obligations.SubWindowStartSearchesAnew := by
  intro s k ht
  refine ⟨_, exec_replySubWindowStart ht k, takeSubWindowStart_eq k s,
    (link_takeSubWindowStart k s).trans (closeSubWindow_link_eq s), ?_⟩
  cases ha : s.framer.armed with
  | some a =>
    rw [framer_subWindowStart_armed ha]
    exact ⟨rfl, rfl, rfl⟩
  | none =>
    rw [framer_subWindowStart_entered ha]
    refine ⟨rfl, ha, ?_⟩
    cases hw : s.framer.window with
    | none => rfl
    | some w => exact congrArg some (startSub_eq k w)

/-! ### The bytes of a sub-window (R108, R109) -/

theorem exec_uplinkByteArrival {s : State} (h : s.clocked = true) (b : Byte) :
    exec (.uplinkByteArrival b) s = .next (s.takeUplinkByte b) := by
  show execUplinkByteArrival b s = _
  rw [execUplinkByteArrival, if_pos h]

theorem exec_uplinkByteError {s : State} (h : s.clocked = true) : exec .uplinkByteError s = .next s.takeUplinkError := by
  show execUplinkByteError s = _
  rw [execUplinkByteError, if_pos h]

theorem subState_listening {s : State} {w : Window} {st : SubState} (hw : s.framer.window = some w)
    (hm : w.mode = .listening st) : s.subState = some st := by
  obtain ⟨slot, cycle, roll, sub, mode⟩ := w
  cases hm
  rw [State.subState, hw]

theorem subState_none {s : State} (h : ∀ w st, s.framer.window = some w → w.mode ≠ .listening st) : s.subState = none := by
  unfold State.subState
  split
  · rename_i hw
    exact absurd rfl (h _ _ hw)
  · rfl

theorem setMode_window {s : State} {w : Window} (hw : s.framer.window = some w) (m : WindowMode) :
    s.setMode m = { s with framer := { s.framer with window := some { w with mode := m } } } := by
  show { s with framer := { s.framer with window := s.framer.window.map _ } } = _
  rw [hw]
  rfl

/-- Outside a sub-window that is searched, bytes and byte errors are ignored (R107, R112). -/
theorem uplink_ignored {s : State} (h : s.subState = none) (b : Byte) : s.takeUplinkByte b = s ∧ s.takeUplinkError = s := by
  rw [State.takeUplinkByte, State.takeUplinkError, h]
  exact ⟨rfl, rfl⟩

/-- Settles O15, sub-window state by sub-window state. -/
theorem uplinkBytesFollowTheSubWindowStates : Obligations.UplinkBytesFollowTheSubWindowStates := by
  constructor
  · intro s w st b hclock hw hm goes
    have hsub := subState_listening hw hm
    have hgoes (st' : SubState) : s.setMode (.listening st') = goes st' := setMode_window hw _
    have hbyte := exec_uplinkByteArrival hclock b
    have herror := exec_uplinkByteError hclock
    rw [State.takeUplinkByte, hsub] at hbyte
    rw [State.takeUplinkError, hsub] at herror
    simp only [hgoes] at hbyte herror
    refine ⟨?_, ?_, ?_, ?_, ?_, ?_, ?_⟩
    · rintro rfl; exact hbyte
    · rintro rfl; exact hbyte
    · rintro bs rfl hlen
      exact hbyte.trans (congrArg _ (if_pos hlen))
    · rintro rfl; exact ⟨hbyte, herror⟩
    · rintro rfl; exact herror
    · rintro rfl; exact herror
    · rintro bs rfl; exact herror
  · intro s b h
    obtain ⟨hbyte, herror⟩ := uplink_ignored (subState_none h) b
    constructor
    · show execUplinkByteArrival b s = _
      rw [execUplinkByteArrival, hbyte, ite_self]
    · show execUplinkByteError s = _
      rw [execUplinkByteError, herror, ite_self]

/-! ### The frame completed (R111, R112) -/

/-- Both events of the eleventh byte complete the frame. -/
theorem exec_eleventhByte {s : State} {bs : List Byte} {b : Byte} {c : Instr} (hclock : s.clocked = true)
    (hsub : s.subState = some (.taking bs)) (hlen : bs.length = 10)
    (hc : c = .uplinkFrameComplete b ∨ c = .uplinkByteArrival b) : exec c s = .next (s.completeFrame (bs ++ [b])) := by
  obtain rfl | rfl := hc
  · show execUplinkFrameComplete b s = _
    simp [execUplinkFrameComplete, hsub, hclock, hlen]
  · rw [exec_uplinkByteArrival hclock, State.takeUplinkByte, hsub]
    exact congrArg _ (if_neg (by omega))

theorem completeFrame_joins {s : State} {w : Window} (hw : s.framer.window = some w) (h : s.framer.fifo.length < 2)
    (bs : List Byte) : s.completeFrame bs = { s with framer := { s.framer with
      fifo := s.framer.fifo ++ [w.frame bs]
      window := some { w with mode := .listening .done } } } := by
  have hjoined : (s.onFramer fun f => { f with fifo := f.fifo ++ [w.frame bs] }).framer.window = some w := hw
  rw [State.completeFrame, hw]
  exact (if_pos h).trans (setMode_window hjoined _)

theorem completeFrame_overruns {s : State} {w : Window} (hw : s.framer.window = some w) (h : 2 ≤ s.framer.fifo.length)
    (bs : List Byte) : s.completeFrame bs = { s with
      framer := { s.framer with window := some { w with mode := .dropping } }, link := s.link.raised .overruns } := by
  rw [State.completeFrame, hw]
  refine (if_neg (Nat.not_lt.2 h)).trans ?_
  rw [setMode_window hw]
  rfl

/-- Settles O16: the frame is completed, and the FIFO has room for it or not. -/
theorem completeFrameJoinsTheFifoOrOverruns : Obligations.CompleteFrameJoinsTheFifoOrOverruns := by
  intro s w bs b c hclock hw hm hlen hc
  rw [exec_eleventhByte hclock (subState_listening hw hm) hlen hc]
  exact ⟨fun h => congrArg _ (completeFrame_joins hw h _), fun h => congrArg _ (completeFrame_overruns hw h _)⟩

end Sys2Proof.Proofs
end

section
/-! PROOFS. RECEIPT_HANDLE on a frame that is not accepted: the test that decides it, and the frame finished with its one counter
and the notice of its option (R115 to R117). -/

namespace Sys2Proof.Proofs

open Sys2Proof Sys2Proof.Machine Sys2Proof.Laws

/-! ### The tests in their order (R116, R117) -/

theorem judge_noRoll {s : State} {f : Frame} (h : s.rollOf f = none) : s.judge f = .stray := by rw [State.judge, h]

section
variable {s : State} {f : Frame} {q : Roll} (hroll : s.rollOf f = some q)
include hroll

theorem judge_foreign (h : receiptDistrict f.bytes ≠ s.settings.district) : s.judge f = .foreign := by
  rw [State.judge, hroll]
  exact if_pos (bne_iff_ne.2 h)

/-- A frame of the district whose kit does not stand enrolled at the frame's position is stray (R117). -/
theorem judge_strayPosition (hd : receiptDistrict f.bytes = s.settings.district)
    (h : f.position = 0 ∨ q.positions.length < f.position ∨ (∀ r, s.kit (receiptKit f.bytes) ≠ .enrolled r) ∨
      ∃ p, q.positions[f.position - 1]? = some p ∧ p.kit ≠ receiptKit f.bytes) : s.judge f = .stray := by
  have hsame : (receiptDistrict f.bytes != s.settings.district) = false := by rw [hd, bne_self_eq_false]
  simp only [State.judge, hroll, hsame, Bool.false_eq_true, if_false]
  split
  · rename_i p r hp hk
    split at hp
    · cases hp
    · rename_i hpos
      obtain ⟨hlt, -⟩ := List.getElem?_eq_some_iff.1 hp
      obtain h0 | hlen | hfree | ⟨p', hp', hne⟩ := h
      · exact absurd h0 hpos
      · omega
      · exact absurd hk (hfree r)
      · cases hp.symm.trans hp'
        exact if_pos (bne_iff_ne.2 hne)
  · rfl

/-- A frame of the kit at its position whose check fails (R117). -/
theorem judge_badCheck {p : Position} {r : KitRec} (hd : receiptDistrict f.bytes = s.settings.district)
    (h1 : 1 ≤ f.position) (hp : q.positions[f.position - 1]? = some p) (hkit : p.kit = receiptKit f.bytes)
    (hk : s.kit (receiptKit f.bytes) = .enrolled r) (hbad : receiptGood r.code f.bytes = false) :
    s.judge f = .badCheck (receiptKit f.bytes) := by
  have hpos : f.position ≠ 0 := Nat.pos_iff_ne_zero.1 h1
  simp [State.judge, hroll, hd, hpos, hp, hkit, hk, hbad]

end

/-! ### A refused frame finished (R115) -/

theorem exec_receiptHandle {s : State} {f : Frame} {rest : List Frame} (hl : s.live = true) (hop : s.link.op ≠ .loading)
    (hidle : s.handler = .idle) (hfifo : s.framer.fifo = f :: rest) :
    exec .receiptHandle s = .next (s.handleFrame f) := by
  have hnot : (s.link.op != .loading) = true := bne_iff_ne.2 hop
  show execReceiptHandle s = _
  simp only [execReceiptHandle, hidle, hfifo, hl, hnot, Bool.and_self, if_true]

/-- The part with the head of the FIFO gone and this link. -/
def State.refused (rest : List Frame) (l : Link) (s : State) : State :=
  { s with framer := { s.framer with fifo := rest }, link := l }

/-- A frame finished with no window ended leaves the FIFO, and nothing else changes but what the link had already. -/
theorem finishFrame_refused {s : State} {f : Frame} {rest : List Frame} (hidle : s.handler = .idle)
    (hfifo : s.framer.fifo = f :: rest) (hopen : ∀ r ∈ s.builder.rolls, r.windowEnded = false) (l : Link) :
    ({ s with link := l } : State).finishFrame = State.refused rest l s := by
  have hdropped : State.frameDropped { s with link := l } = State.refused rest l s := by
    show { s with framer := { s.framer with fifo := s.framer.fifo.tail }, handler := .idle, link := l } = _
    rw [hfifo, ← hidle]
    rfl
  show (State.frameDropped { s with link := l }).closeDone = _
  rw [hdropped]
  exact closeDone_open hopen

/-- The link after a refused frame was counted, and its notice posted if its option is on. -/
def State.refusalNoted (w : Counter) (option : Bool) (kind : NoticeKind) (k : Option Nat) (s : State) : Link :=
  if option then
    (s.link.raised w).posted { kind := kind, dh := s.clock.dh, cycle := s.clock.cycle, kit := k }
  else s.link.raised w

theorem raise_post_if_eq (s : State) (w : Counter) (option : Bool) (kind : NoticeKind) (k : Option Nat) :
    (if option then (s.raise w).post kind k else s.raise w) =
      { s with link := State.refusalNoted w option kind k s } := by
  cases option <;> rfl

section
variable {s : State} {f : Frame} {rest : List Frame} (hidle : s.handler = .idle) (hfifo : s.framer.fifo = f :: rest)
  (hopen : ∀ r ∈ s.builder.rolls, r.windowEnded = false)
include hidle hfifo hopen

theorem handleFrame_stray (hj : s.judge f = .stray) : s.handleFrame f = State.refused rest (s.link.raised .stray) s := by
  rw [State.handleFrame, hj]
  exact finishFrame_refused hidle hfifo hopen _

theorem handleFrame_foreign (hj : s.judge f = .foreign) :
    s.handleFrame f = State.refused rest (State.refusalNoted .foreign s.settings.foreignPass
      (.foreign (receiptDistrict f.bytes) f.slot f.position)
      (if receiptKit f.bytes < 4096 then some (receiptKit f.bytes) else none) s) s := by
  rw [State.handleFrame, hj]
  exact (congrArg State.finishFrame (raise_post_if_eq s _ _ _ _)).trans (finishFrame_refused hidle hfifo hopen _)

theorem handleFrame_badCheck {k : Nat} (hj : s.judge f = .badCheck k) :
    s.handleFrame f = State.refused rest (State.refusalNoted .badCheck s.settings.saveBad
      (.badReply f.slot f.position (receiptIssue f.bytes)) (some k) s) s := by
  rw [State.handleFrame, hj]
  exact (congrArg State.finishFrame (raise_post_if_eq s _ _ _ _)).trans (finishFrame_refused hidle hfifo hopen _)

end

/-- Settles O19: the first test that fails decides the frame, and it is finished with that test's counter and notice. -/
theorem refusedFrameChangesNoRecord : Obligations.RefusedFrameChangesNoRecord := by
  intro s f rest hl hop hidle hfifo hopen roll done noted k
  have hexec := exec_receiptHandle hl hop hidle hfifo
  have hstray (hj : s.judge f = .stray) : exec .receiptHandle s = .next (done (s.link.raised .stray)) :=
    hexec.trans (congrArg _ (handleFrame_stray hidle hfifo hopen hj))
  refine ⟨fun hroll => hstray (judge_noRoll hroll), fun q hroll => ⟨fun hd => ?_, fun hd => ⟨fun h => ?_, ?_⟩⟩⟩
  · exact hexec.trans (congrArg _ (handleFrame_foreign hidle hfifo hopen (judge_foreign hroll hd)))
  · exact hstray (judge_strayPosition hroll hd h)
  · intro p r h1 hp hkit hk hbad
    exact hexec.trans (congrArg _ (handleFrame_badCheck hidle hfifo hopen (judge_badCheck hroll hd h1 hp hkit hk hbad)))

end Sys2Proof.Proofs
end

section
/-! PROOFS. MOVE of an answering kit: the order to the new slot, whose listen slot stays until the move completes (R22, R23, R131,
R132). -/

namespace Sys2Proof.Proofs

open Sys2Proof Sys2Proof.Machine Sys2Proof.Laws

/-- An order that neither locks nor unlocks the kit clears unlock where the kit is locked and keeps it elsewhere (R23). -/
theorem unlockAfter_of_locked_eq {dh : Nat} {old new : KitRec} (h : new.locked dh = old.locked dh) :
    unlockAfter dh old new = if old.locked dh then false else old.unlock := by
  rw [unlockAfter, h]
  cases old.locked dh <;> rfl

/-- A move orders the new slot under the next issue, which is the move issue too, and leaves horizon and held hours, so that the
kit is locked as it was (R22, R23, R132). -/
theorem movedRec_eq (dh slot : Nat) (notify : Bool) (r : KitRec) : movedRec dh slot notify r =
    { r with
      ordered := slot
      moveIssue := some (r.issue + 1)
      moveSent := false
      issue := r.issue + 1
      settled := false
      sends := 0
      unlock := if r.heldHours.isSome || decide (r.horizon ≤ dh) then false else r.unlock
      notify := notify } := by
  have hunlock : unlockAfter dh r { r with ordered := slot, moveIssue := some (r.issue + 1), moveSent := false } =
      if r.heldHours.isSome || decide (r.horizon ≤ dh) then false else r.unlock := unlockAfter_of_locked_eq rfl
  rw [movedRec, changeOrder, hunlock]

/-- MOVE is granted to an answering kit with the uplink option on and no move pending, to a slot in range other than its own
(R131); the reply gives the issue as issue and move issue, and the two slots. -/
theorem moveVerdict_grants {p : List Byte} {r : KitRec} {uplink : Bool} (ha : r.answers = true) (hu : uplink = true)
    (hm : r.moveIssue = none) (hs : field p 2 1 ≤ 119) (hne : field p 2 1 ≠ r.listen) (dh : Nat) :
    moveVerdict dh uplink p (.enrolled r) =
      .apply (.enrolled (movedRec dh (field p 2 1) (flagAt p 3) r)) .ok
        (be2 (r.issue + 1).toNat ++ be2 (r.issue + 1).toNat ++ be1 r.listen ++ be1 (field p 2 1)) := by
  have hanswers : ¬ (!r.answers || !uplink) = true := by simp [ha, hu]
  have hmoving : ¬ r.moveIssue.isSome = true := by simp [hm]
  have hslot : ¬ (119 < field p 2 1 ∨ field p 2 1 = r.listen) := not_or.2 ⟨Nat.not_lt.2 hs, hne⟩
  rw [moveVerdict, if_neg hanswers, if_neg hmoving, if_neg hslot]
  rfl

/-- Settles O51: the verdict grants the move, and then the request is applied with the record written out. -/
theorem moveOrdersTheNewSlot : Obligations.MoveOrdersTheNewSlot := by
  intro s tag p r h hc hp hroom hk ha hu hm hs hne
  have hverdict := (congrArg (commandVerdict s .move p) hk).trans (moveVerdict_grants ha hu hm hs hne s.clock.dh)
  rw [movedRec_eq] at hverdict
  exact exec_applied (k := .move) h nofun (fun _ => rfl) hc hp hroom hverdict

end Sys2Proof.Proofs
end

section
/-! PROOFS. Every command and event keeps the tables and the memory canonical, and no index twice in the dirty queue (R144,
R145). -/

namespace Sys2Proof.Proofs

open Sys2Proof Sys2Proof.Machine Sys2Proof.Laws

/-! ### Acts that keep the canonical form -/

/-- The tables and the memory stay canonical, and the dirty queue without repeats. -/
structure TablesKept (s t : State) : Prop where
  tables : s.tablesCanonical = true → t.tablesCanonical = true
  once   : s.queueOnce = true → t.queueOnce = true

theorem TablesKept.refl (s : State) : TablesKept s s := ⟨id, id⟩

theorem TablesKept.trans {s t u : State} (h : TablesKept s t) (h' : TablesKept t u) : TablesKept s u :=
  ⟨h'.tables ∘ h.tables, h'.once ∘ h.once⟩

/-- What the canonical form speaks of: the four tables, the memory and the dirty queue. -/
def State.tabled (s : State) :
    List (Nat × Kit) × List (Nat × List Nat) × List (Nat × Nat) × List (Nat × Nat) × List Host.Cell × List Nat :=
  (s.roster, s.scheduler.lists, s.scheduler.auditPtrs, s.scheduler.idle, s.store.cells, s.store.queue)

/-- Acts that leave the tables, the memory and the queue keep their form. -/
theorem TablesKept.of_eq {s t : State} (h : State.tabled t = State.tabled s) : TablesKept s t := by
  simp only [State.tabled, Prod.mk.injEq] at h
  obtain ⟨hroster, hlists, hptrs, hidle, hcells, hqueue⟩ := h
  constructor
  · rw [State.tablesCanonical, State.tablesCanonical, hroster, hlists, hptrs, hidle, hcells]; exact id
  · rw [State.queueOnce, State.queueOnce, hqueue]; exact id

/-- What follows and leaves the tables, the memory and the queue keeps their form too. -/
theorem TablesKept.then {s u t : State} (h : TablesKept s u) (he : State.tabled t = State.tabled u) : TablesKept s t :=
  h.trans (.of_eq he)

theorem tablesCanonical_iff {s : State} : s.tablesCanonical = true ↔
    canonical .free s.roster = true ∧ canonical [] s.scheduler.lists = true ∧ canonical 0 s.scheduler.auditPtrs = true ∧
      canonical 0 s.scheduler.idle = true ∧ memoryWf s.store.cells = true := by
  simp only [State.tablesCanonical, Bool.and_eq_true, and_assoc]

theorem queueOnce_iff {s : State} : s.queueOnce = true ↔ s.store.queue.Nodup := decide_eq_true_iff

theorem tablesKept_putKit (s : State) (k : Nat) (kit : Kit) : TablesKept s (s.putKit k kit) :=
  ⟨fun h => tablesCanonical_putKit h k kit, id⟩

/-- An index that joins the queue is not in it yet (R145). -/
theorem tablesKept_enqueue (s : State) (k : Nat) : TablesKept s (s.enqueue k) where
  tables := by rw [tablesCanonical_iff, tablesCanonical_iff, enqueue_store]; exact id
  once := fun h => queueOnce_iff.2 (nodup_enqueue (queueOnce_iff.1 h) k)

theorem AirAct.tablesKept {s t : State} (h : AirAct s t) : TablesKept s t := by
  cases h with
  | record r' _ _ => exact tablesKept_putKit s _ _
  | post n k => exact .of_eq rfl
  | count w n => exact .of_eq rfl
  | builder f => exact .of_eq rfl
  | idle slot =>
    refine ⟨fun h => ?_, id⟩
    obtain ⟨hroster, hlists, hptrs, hidle, hcells⟩ := tablesCanonical_iff.1 h
    exact tablesCanonical_iff.2 ⟨hroster, hlists, hptrs, canonical_setAt hidle slot 0, hcells⟩

theorem tablesKept_airActs {s t : State} (h : AirActs s t) : TablesKept s t := by
  induction h with
  | refl => exact .refl s
  | tail _ ha ih => exact ih.trans ha.tablesKept

theorem ReckonAct.tablesKept {s t : State} (h : ReckonAct s t) : TablesKept s t := by
  cases h with
  | air h => exact h.tablesKept
  | apply kit _ => exact (tablesKept_putKit s _ kit).trans (tablesKept_enqueue _ _)
  | hand _ _ _ => exact .of_eq rfl
  | answer st content _ _ => exact .of_eq rfl
  | walk w => exact .of_eq rfl
  | handler h => exact .of_eq rfl
  | frame => exact .of_eq rfl
  | rotation r => exact .of_eq rfl

theorem tablesKept_reckonActs {s t : State} (h : ReckonActs s t) : TablesKept s t := by
  induction h with
  | refl => exact .refl s
  | tail _ ha ih => exact ih.trans ha.tablesKept

/-- A write into the memory keeps its form (R144). -/
theorem tablesKept_memoryHolds (t : StoreTarget) (bs : List Byte) (s : State) : TablesKept s (s.memoryHolds t bs) := by
  refine ⟨fun h => ?_, id⟩
  obtain ⟨hroster, hlists, hptrs, hidle, hcells⟩ := tablesCanonical_iff.1 h
  exact tablesCanonical_iff.2 ⟨hroster, hlists, hptrs, hidle, memoryWf_writeRun hcells _ _⟩

/-- A part with every table and the queue empty has them in their form, whatever its memory holds (R8, R145). -/
theorem tablesKept_emptied {s t : State} (h : State.tabled t = ([], [], [], [], s.store.cells, [])) : TablesKept s t := by
  have hblank : TablesKept s s.blank :=
    ⟨fun hs => tablesCanonical_iff.2 ⟨rfl, rfl, rfl, rfl, (tablesCanonical_iff.1 hs).2.2.2.2⟩, fun _ => rfl⟩
  exact hblank.then h

theorem tablesKept_cutWrite (tear : BitVec 64) (s : State) : TablesKept s (s.cutWrite tear) := by
  unfold State.cutWrite
  split
  · exact tablesKept_memoryHolds ..
  · exact tablesKept_memoryHolds ..
  · exact .refl s

/-- A selection act sets the audit pointer of its slot, and may set its idle counter (R82, R83). -/
theorem tablesKept_beginPreparation (s : State) : TablesKept s s.beginPreparation := by
  rcases beginPreparation_cases s with ⟨-, -, h⟩ | ⟨-, h⟩ <;> rw [h]
  · refine ⟨fun hs => ?_, id⟩
    obtain ⟨hroster, hlists, hptrs, hidle, hcells⟩ := tablesCanonical_iff.1 hs
    refine tablesCanonical_iff.2 ⟨hroster, hlists, canonical_setAt hptrs _ _, ?_, hcells⟩
    rw [(prepare_eq s).2]
    dsimp only
    split
    · exact hidle
    · exact canonical_setAt hidle _ _
  · exact .refl s

/-! ### The record store (R147 to R154) -/

/-- The head of the queue leaves it as a write starts, and the requests that take the room join it (R146, R147). -/
theorem tablesKept_startNextWrite (s : State) : TablesKept s s.startNextWrite := by
  rcases startNextWrite_cases s with ⟨h, -⟩ | ⟨-, -, h⟩ | ⟨k, rest, -, -, hq, h⟩ <;> rw [h]
  · exact .refl s
  · exact .of_eq rfl
  · obtain ⟨u, hu, he⟩ := startRecordWrite_acts k rest s
    have hhead : TablesKept s (State.headTaken k rest s) :=
      ⟨id, fun hs => queueOnce_iff.2 (List.nodup_cons.1 (hq ▸ queueOnce_iff.1 hs)).2⟩
    rw [he]
    exact (hhead.trans (tablesKept_reckonActs hu)).then rfl

theorem tablesKept_tryAccept (s : State) (r : Requester) : TablesKept s (s.tryAccept r) := by
  rcases tryAccept_cases s r with ⟨h, -⟩ | ⟨k, hw, hk, h⟩ <;> rw [h]
  · exact .refl s
  · have hacc := reckonActs_serveAccepted (s := s) (r := r) fun j hj => by rw [hw] at hj; cases hj; exact hk
    exact (tablesKept_reckonActs hacc).trans (tablesKept_startNextWrite _)

theorem tablesKept_recordVerified (k : Nat) (s : State) : TablesKept s (s.recordVerified k) := by
  rw [recordVerified_eq]
  have h : TablesKept s (State.writeVerified k s) := .of_eq rfl
  exact (h.trans (tablesKept_reckonActs (reckonActs_settleHand _))).trans (tablesKept_startNextWrite _)

theorem tablesKept_settingsVerified (s : State) : TablesKept s s.settingsVerified := by
  rw [settingsVerified_eq]
  have h : TablesKept s (State.saveVerified s) := .of_eq rfl
  exact (h.trans (tablesKept_reckonActs (reckonActs_settleHand _))).trans (tablesKept_startNextWrite _)

/-- A store fault changes no table but by the rolls that close with the frame it ends (R126, R151). -/
theorem tablesKept_storeFault (t : StoreTarget) (e : Bool) (s : State) : TablesKept s (s.storeFault t e) := by
  rw [storeFault_eq]
  have hstop : TablesKept s (State.controllerStopped t e s) := .of_eq rfl
  have hwalk (u : State) : TablesKept u (State.walkAborted u) := by
    unfold State.walkAborted
    split <;> exact .of_eq rfl
  have hhandler (u : State) : TablesKept u u.withdrawHandler := by
    rcases withdrawHandler_cases u with ⟨-, h⟩ | ⟨-, h⟩ <;> rw [h]
    · exact .refl u
    · exact tablesKept_reckonActs (reckonActs_finishFrame u)
  have hhand (u : State) : TablesKept u (State.handRefused u) := by
    unfold State.handRefused
    split <;> exact .of_eq rfl
  exact ((hstop.trans (hwalk _)).trans (hhandler _)).trans (hhand _)

theorem tablesKept_attemptFailed (e : Bool) (s : State) : TablesKept s (s.attemptFailed e) := by
  obtain ⟨k, image, n, -, ⟨-, h⟩ | ⟨-, h⟩⟩ | ⟨image, n, -, ⟨-, h⟩ | ⟨-, h⟩⟩ | h := attemptFailed_cases e s <;> rw [h]
  · exact .of_eq rfl
  · exact tablesKept_storeFault _ _ s
  · exact .of_eq rfl
  · exact tablesKept_storeFault _ _ s
  · exact .refl s

theorem tablesKept_attemptReadBack (bs : List Byte) (s : State) : TablesKept s (s.attemptReadBack bs) := by
  have held (t : StoreTarget) := tablesKept_memoryHolds t bs s
  unfold State.attemptReadBack
  split
  · unfold State.recordReadBack
    dsimp only
    split
    · exact (held _).trans (tablesKept_recordVerified _ _)
    · exact (held _).trans (tablesKept_attemptFailed _ _)
  · unfold State.settingsReadBack
    dsimp only
    split
    · exact (held _).trans (tablesKept_settingsVerified _)
    · exact (held _).trans (tablesKept_attemptFailed _ _)
  · exact .refl s

theorem tablesKept_attemptInError (left : List Byte) (s : State) : TablesKept s (s.attemptInError left) := by
  unfold State.attemptInError
  split
  · exact (tablesKept_memoryHolds _ _ s).trans (tablesKept_attemptFailed _ _)
  · exact (tablesKept_memoryHolds _ _ s).trans (tablesKept_attemptFailed _ _)
  · exact .refl s

theorem tablesKept_loadSettings (read : Option (List Byte)) (s : State) : TablesKept s (s.loadSettings read) := by
  unfold State.loadSettings
  split
  · exact .of_eq rfl
  · split <;> exact .of_eq rfl

theorem tablesKept_loadKit (k : Nat) (read : Option (List Byte)) (s : State) : TablesKept s (s.loadKit k read) := by
  have hread : TablesKept s (State.kitRead k read s) := by
    unfold State.kitRead
    split
    · exact (tablesKept_putKit s _ _).then rfl
    · exact tablesKept_putKit s _ _
  rw [loadKit_eq]
  split <;> exact hread.then rfl

theorem tablesKept_memoryTimeout (left : List Byte) (s : State) : TablesKept s (s.memoryTimeout left) := by
  unfold State.memoryTimeout
  split
  · exact tablesKept_loadSettings ..
  · exact tablesKept_loadKit ..
  · exact tablesKept_attemptInError left s

/-! ### The frames (R160) -/

theorem tabled_abortWalk (s : State) : State.tabled s.abortWalk = State.tabled s := by
  unfold State.abortWalk
  split
  · rfl
  · split <;> rfl

theorem tablesKept_requestRule (k : CmdKind) (tag : Byte) (p : List Byte) (s : State) :
    TablesKept s (s.requestRule k tag p) := by
  unfold State.requestRule
  split
  · exact .of_eq rfl
  · exact (TablesKept.of_eq rfl : TablesKept s (s.setHand (newHand k tag p))).trans (tablesKept_tryAccept _ _)

/-- Of the commands' rules only those with a request of a record, SAVE SETTINGS and START come at the tables or the queue. -/
theorem tablesKept_ruleOf (k : CmdKind) (tag : Byte) (p : List Byte) (s : State) : TablesKept s (ruleOf k tag p s) := by
  cases k with
  | identify | status | fetchNotices | counters => exact .of_eq rfl
  | configure =>
    show TablesKept s (configureRule tag p s)
    unfold configureRule
    split <;> exact .of_eq rfl
  | loadPattern =>
    show TablesKept s (loadPatternRule tag p s)
    unfold loadPatternRule
    split <;> exact .of_eq rfl
  | saveSettings =>
    refine TablesKept.trans ?_ (tablesKept_startNextWrite _)
    exact .of_eq rfl
  | setClock =>
    show TablesKept s (setClockRule tag p s)
    unfold setClockRule
    split
    · exact .of_eq rfl
    · split <;> exact .of_eq rfl
  | start =>
    show TablesKept s (startRule tag p s)
    unfold startRule
    split
    · exact .of_eq rfl
    · split
      · exact .of_eq rfl
      · refine TablesKept.trans ?_ (tablesKept_beginPreparation _)
        exact .of_eq rfl
  | stop =>
    show TablesKept s (stopRule tag p s)
    unfold stopRule
    split <;> exact .of_eq rfl
  | reset =>
    show TablesKept s (resetRule tag p s)
    unfold resetRule
    split
    · exact .of_eq rfl
    · exact .of_eq (tabled_abortWalk _)
  | enrolBlock =>
    show TablesKept s (enrolBlockRule tag p s)
    unfold enrolBlockRule
    split
    · exact .of_eq rfl
    · exact tablesKept_requestRule ..
  | readKit =>
    show TablesKept s (readKitRule tag p s)
    unfold readKitRule
    dsimp only
    split <;> exact .of_eq rfl
  | grace =>
    show TablesKept s (graceRule tag p s)
    unfold graceRule
    split
    · exact .of_eq rfl
    · split <;> exact .of_eq rfl
  | graceAbort =>
    show TablesKept s (graceAbortRule tag p s)
    unfold graceAbortRule
    split
    · exact .of_eq rfl
    · exact .of_eq (tabled_abortWalk _)
  | enrol | retire | restore | grant | setHorizon | withdraw | resume | move => exact tablesKept_requestRule ..

theorem tabled_answerUntaken (r : Reply) (s : State) : State.tabled (s.answerUntaken r) = State.tabled s := by
  unfold State.answerUntaken
  split <;> rfl

theorem tablesKept_receiveFrame (k : CmdKind) (tag : Byte) (p : List Byte) (s : State) :
    TablesKept s (s.receiveFrame k tag p (ruleOf k)) := by
  have hw : TablesKept s (State.waiting s) := .of_eq rfl
  obtain ⟨-, h⟩ | ⟨-, ⟨r, h⟩ | h | ⟨-, st, c, h⟩ | ⟨-, h⟩⟩ := receiveFrame_cases k tag p (ruleOf k) s <;> rw [h]
  · exact .refl s
  · exact hw.then (tabled_answerUntaken r _)
  · exact .of_eq rfl
  · exact .of_eq rfl
  · exact hw.trans (tablesKept_ruleOf k tag p _)

theorem tabled_receiveUnknown (kind tag : Byte) (s : State) : State.tabled (s.receiveUnknown kind tag) = State.tabled s := by
  unfold State.receiveUnknown
  split
  · exact tabled_answerUntaken _ _
  · rfl

theorem tabled_rejectFrame (r : RejectReason) (s : State) : State.tabled (s.rejectFrame r) = State.tabled s := by
  unfold State.rejectFrame
  dsimp only
  split <;> rfl

/-- A byte on the link comes at the tables only as the last one of a command's frame (R158, R160). -/
theorem tablesKept_takeLinkByte (b : Byte) (s : State) : TablesKept s (s.takeLinkByte b) := by
  have rejected (r : RejectReason) : TablesKept s (s.rejectFrame r) := .of_eq (tabled_rejectFrame r s)
  unfold State.takeLinkByte
  dsimp only
  split
  · split <;> exact .of_eq rfl
  · split
    · exact rejected _
    · exact .of_eq rfl
  · split <;> exact .of_eq rfl
  · exact .of_eq rfl
  · unfold State.frameChecked
    split
    · split
      · split
        · exact tablesKept_receiveFrame ..
        · exact .of_eq (tabled_receiveUnknown ..)
      · exact rejected _
    · exact rejected _

/-! ### Time, the uplink, receipts and the walk -/

theorem tablesKept_takeDownlinkWindowEnd (s : State) : TablesKept s s.takeDownlinkWindowEnd := by
  have hclock : TablesKept s (s.onClock fun c => { c with timer := .reply 1 }) := .of_eq rfl
  unfold State.takeDownlinkWindowEnd
  dsimp only
  split
  · exact hclock.trans (tablesKept_beginPreparation _)
  · exact hclock

theorem tabled_closeSubWindow (s : State) : State.tabled s.closeSubWindow = State.tabled s := by
  rcases closeSubWindow_cases s with h | h <;> rw [h]
  rfl

theorem tabled_completeFrame (bs : List Byte) (s : State) : State.tabled (s.completeFrame bs) = State.tabled s := by
  unfold State.completeFrame
  split
  · split <;> rfl
  · rfl

theorem tabled_takeUplinkByte (b : Byte) (s : State) : State.tabled (s.takeUplinkByte b) = State.tabled s := by
  unfold State.takeUplinkByte
  split
  · split <;> rfl
  · split
    · rfl
    · split <;> rfl
  · split
    · rfl
    · exact tabled_completeFrame _ s
  · rfl

theorem tabled_takeUplinkError (s : State) : State.tabled s.takeUplinkError = State.tabled s := by
  unfold State.takeUplinkError
  split <;> rfl

theorem tablesKept_handleFrame (f : Frame) (s : State) : TablesKept s (s.handleFrame f) := by
  obtain ⟨u, hu, h | ⟨-, q, rest, h⟩⟩ := handleFrame_cases f s <;> rw [h]
  · exact (tablesKept_airActs hu).trans (tablesKept_reckonActs (reckonActs_finishFrame u))
  · exact (tablesKept_airActs hu).then rfl

theorem tablesKept_examineNext (s : State) : TablesKept s s.examineNext := by
  unfold State.examineNext
  split
  · split
    · exact .refl s
    · split
      · exact .of_eq rfl
      · exact tablesKept_reckonActs (reckonActs_finishIndex ..)
  · exact .refl s

/-! ### Every command and event -/

/-- An event that takes effect under a condition keeps the form if its effect does. -/
theorem tablesKept_if {s t : State} (c : Bool) (h : TablesKept s t) : TablesKept s (if c then t else s) := by
  cases c
  · exact .refl s
  · exact h

theorem tablesKept_exec (c : Instr) (s : State) : ∃ t, exec c s = .next t ∧ TablesKept s t := by
  cases c using Instr.byFrame with
  | command k tag p => exact ⟨_, exec_commandOf k tag p s, tablesKept_receiveFrame k tag p s⟩
  | powerUp speed => exact ⟨_, rfl, tablesKept_emptied rfl⟩
  | resetPinAsserted tear | powerLoss tear => exact ⟨_, rfl, (tablesKept_cutWrite tear s).trans (tablesKept_emptied rfl)⟩
  | resetPinDeasserted speed =>
    refine ⟨_, rfl, tablesKept_if _ ?_⟩
    split
    · exact tablesKept_emptied rfl
    · exact .of_eq rfl
  | referenceClockStops | referenceClockReturns => exact ⟨_, rfl, .of_eq rfl⟩
  | slotStart =>
    have hopened : TablesKept s (State.slotOpened s) := .of_eq rfl
    exact ⟨_, rfl, tablesKept_if _ ((hopened.trans (tablesKept_airActs (airActs_builderAtSlotStart _))).then rfl)⟩
  | downlinkWindowEnd => exact ⟨_, rfl, tablesKept_if _ (tablesKept_takeDownlinkWindowEnd s)⟩
  | replySubWindowStart k => exact ⟨_, rfl, tablesKept_if _ (.of_eq (tabled_closeSubWindow s))⟩
  | replyWindowEnd =>
    have hover : TablesKept s (State.windowOver s) := .of_eq (tabled_closeSubWindow s)
    exact ⟨_, rfl, tablesKept_if _ (hover.trans (tablesKept_airActs (airActs_closeDone _)))⟩
  | preparationComplete =>
    refine ⟨_, rfl, tablesKept_if _ ?_⟩
    unfold State.takePreparationComplete
    split <;> exact .of_eq rfl
  | uplinkFrameComplete b =>
    refine ⟨_, rfl, ?_⟩
    split
    · exact tablesKept_if _ (.of_eq (tabled_completeFrame _ s))
    · exact .refl s
  | uplinkByteError => exact ⟨_, rfl, tablesKept_if _ (.of_eq (tabled_takeUplinkError s))⟩
  | uplinkByteArrival b => exact ⟨_, rfl, tablesKept_if _ (.of_eq (tabled_takeUplinkByte b s))⟩
  | receiptHandle =>
    refine ⟨_, rfl, ?_⟩
    split
    · exact tablesKept_if _ (tablesKept_handleFrame _ s)
    · exact .refl s
  | moveCompletion | withdrawalOnTamper =>
    refine ⟨_, rfl, ?_⟩
    split
    · exact tablesKept_if _ (tablesKept_tryAccept s _)
    · exact .refl s
  | graceExamine => exact ⟨_, rfl, tablesKept_if _ (tablesKept_examineNext s)⟩
  | graceReckoning | commandReckoning => exact ⟨_, rfl, tablesKept_if _ (tablesKept_tryAccept s _)⟩
  | storeAttemptComplete e =>
    refine ⟨_, rfl, tablesKept_if _ ?_⟩
    cases e with
    | good => exact tablesKept_attemptReadBack _ s
    | readBack bs => exact tablesKept_attemptReadBack bs s
    | inError left => exact tablesKept_attemptInError left s
  | storeMemoryTimeout left => exact ⟨_, rfl, tablesKept_if _ (tablesKept_memoryTimeout left s)⟩
  | settingsBlockRead r =>
    refine ⟨_, rfl, ?_⟩
    split
    · exact tablesKept_if _ (tablesKept_loadSettings _ s)
    · exact .refl s
  | kitRecordRead r =>
    refine ⟨_, rfl, ?_⟩
    split
    · exact tablesKept_if _ (tablesKept_loadKit _ _ s)
    · exact .refl s
  | closingDrainComplete speed => exact ⟨_, rfl, tablesKept_if _ (tablesKept_emptied rfl)⟩
  | replySent speed =>
    refine ⟨_, rfl, tablesKept_if _ ?_⟩
    unfold State.takeReplySent
    split
    · exact .refl s
    · split
      · exact tablesKept_emptied rfl
      · exact .of_eq rfl
  | hourTick | burstComplete | notePulseEnd => exact ⟨_, rfl, tablesKept_if _ (.of_eq rfl)⟩
  | linkFrameReject r => exact ⟨_, rfl, tablesKept_if _ (.of_eq (tabled_rejectFrame r s))⟩
  | linkGapExpiry => exact ⟨_, rfl, tablesKept_if _ (.of_eq (tabled_rejectFrame .gap s))⟩
  | unknownKindFrame kind tag => exact ⟨_, rfl, .of_eq (tabled_receiveUnknown kind tag s)⟩
  | linkByteArrival b => exact ⟨_, rfl, tablesKept_if _ (tablesKept_takeLinkByte b s)⟩

/-- Settles O57: the tables change only by entries that are set, the memory by runs that are written, and the queue by an index
that joins it or its head that leaves. -/
theorem everyStepKeepsTheTablesCanonical : Obligations.EveryStepKeepsTheTablesCanonical := by
  intro s t h
  obtain ⟨-, rfl⟩ | ⟨c, rest, -, he⟩ := step_cases h
  · exact ⟨id, id⟩
  · obtain ⟨u, hu, hk⟩ := tablesKept_exec c { s with pending := rest }
    cases he.symm.trans hu
    exact ⟨hk.tables, hk.once⟩

end Sys2Proof.Proofs
end

section
/-! PROOFS. The settings block: its image holds the settings and the pattern it was formed from, and passes its tests (R152,
R153, R184). -/

namespace Sys2Proof.Proofs

open Sys2Proof Sys2Proof.Machine Sys2Proof.Laws

/-! ### The settings in the CONFIGURE form (R176) -/

/-- What the options byte says of the settings. -/
theorem options_bits (g : Settings) :
    bitAt g.options 0 = g.uplink ∧ bitAt g.options 1 = g.saveBad ∧ bitAt g.options 2 = g.foreignPass ∧
      bitAt g.options 3 = g.usageNotices ∧ bitAt g.options 4 = g.autoHold ∧ bitAt g.options 5 = g.notePulse := by
  unfold Settings.options
  generalize g.uplink = b0
  generalize g.saveBad = b1
  generalize g.foreignPass = b2
  generalize g.usageNotices = b3
  generalize g.autoHold = b4
  generalize g.notePulse = b5
  revert b0 b1 b2 b3 b4 b5
  decide

theorem field_options (g : Settings) (rest : List Byte) : field (g.bytes ++ rest) 13 1 = g.options :=
  (beNat_be1 g.options).trans (Nat.mod_eq_of_lt ((options_lt g).trans (by decide)))

/-- Settings in range read back from their bytes: no range is wider than the bytes of its field. -/
theorem settingsOfBytes_bytes {g : Settings} (h : g.inRange = true) (rest : List Byte) :
    settingsOfBytes (g.bytes ++ rest) = g := by
  simp only [Settings.inRange, fieldsInRange, List.all_cons, Bool.and_eq_true, decide_eq_true_eq, id_eq, List.all_nil] at h
  obtain ⟨hd, ⟨-, ha⟩, ⟨-, hb⟩, ⟨-, hs⟩, ⟨-, hp⟩, hf, hv, ⟨-, hm⟩, ht, ⟨-, hh⟩, -⟩ := h
  have byte {n limit : Nat} (hn : n ≤ limit) (hl : limit < 256) : beNat (be1 n) = n :=
    (beNat_be1 n).trans (Nat.mod_eq_of_lt (hn.trans_lt hl))
  have word {n limit : Nat} (hn : n ≤ limit) (hl : limit < 65536) : beNat (be2 n) = n :=
    (beNat_be2 n).trans (Nat.mod_eq_of_lt (hn.trans_lt hl))
  have district : field (g.bytes ++ rest) 0 2 = g.district := word hd (by decide)
  have advance : field (g.bytes ++ rest) 2 2 = g.advance := word ha (by decide)
  have budget : field (g.bytes ++ rest) 4 1 = g.budget := byte hb (by decide)
  have slowInterval : field (g.bytes ++ rest) 5 1 = g.slowInterval := byte hs (by decide)
  have packing : field (g.bytes ++ rest) 6 1 = g.packing := byte hp (by decide)
  have refresh : field (g.bytes ++ rest) 7 1 = g.refresh := byte hf (by decide)
  have auditInterval : field (g.bytes ++ rest) 8 2 = g.auditInterval := word hv (by decide)
  have missedMark : field (g.bytes ++ rest) 10 1 = g.missedMark := byte hm (by decide)
  have tamperMark : field (g.bytes ++ rest) 11 1 = g.tamperMark := byte ht (by decide)
  have holdMark : field (g.bytes ++ rest) 12 1 = g.holdMark := byte hh (by decide)
  obtain ⟨uplink, saveBad, foreignPass, usageNotices, autoHold, notePulse⟩ := options_bits g
  simp only [settingsOfBytes, district, advance, budget, slowInterval, packing, refresh, auditInterval, missedMark,
    tamperMark, holdMark, field_options, uplink, saveBad, foreignPass, usageNotices, autoHold, notePulse]

/-! ### The pattern's step bytes (R176, R177) -/

theorem stepOfByte_byte (st : PatternStep) : stepOfByte st.byte = some st := by
  obtain ⟨cls, veto⟩ := st
  cases cls <;> cases veto <;> rfl

theorem patternOfBytes_bytes (pat : List PatternStep) : patternOfBytes (pat.map PatternStep.byte) = pat := by
  have hread : stepOfByte ∘ PatternStep.byte = some := funext stepOfByte_byte
  rw [patternOfBytes, List.filterMap_map, hread, List.filterMap_some]

/-! ### The image of the block (R184) -/

theorem settingsImage_eq (g : Settings) (pat : List PatternStep) : settingsImage g pat =
    g.bytes ++ (pat.map PatternStep.byte ++ (List.replicate 32 0 ++ crcBytes (settingsBody g pat))) := by
  rw [settingsImage, settingsBody, List.append_assoc, List.append_assoc]

/-- The step bytes stand behind the fourteen bytes of the settings. -/
theorem steps_settingsImage (g : Settings) {pat : List PatternStep} (h : pat.length = 16) :
    ((settingsImage g pat).drop 14).take 16 = pat.map PatternStep.byte := by
  rw [settingsImage_eq, List.drop_left' (by rfl), List.take_left' ((List.length_map _).trans h)]

theorem length_settingsBody (g : Settings) {pat : List PatternStep} (h : pat.length = 16) :
    (settingsBody g pat).length = 62 := by
  rw [settingsBody, List.length_append, List.length_append, List.length_map, h]
  rfl

/-- The image's check is that of the bytes before it (R152). -/
theorem check_settingsImage (g : Settings) {pat : List PatternStep} (h : pat.length = 16) :
    crcBytes ((settingsImage g pat).take 62) = (settingsImage g pat).drop 62 := by
  rw [settingsImage, List.take_left' (length_settingsBody g h), List.drop_left' (length_settingsBody g h)]

/-- Settles O33: the check is that of the body, and the bytes hold the settings and the steps, which are in range. -/
theorem settingsImageLoadsBack : Obligations.SettingsImageLoadsBack := by
  intro g pat hg hpat b
  have hb : b = g.bytes ++ _ := settingsImage_eq g pat
  have hsettings : settingsOfBytes b = g := hb ▸ settingsOfBytes_bytes hg _
  have hoptions : field b 13 1 = g.options := hb ▸ field_options g _
  have hsteps : (b.drop 14).take 16 = pat.map PatternStep.byte := steps_settingsImage g hpat
  have hsound : blockSound b := by
    rw [blockSound, hsettings, hoptions, hsteps]
    refine ⟨((Bool.and_eq_true _ _).mp hg).2, List.forall_mem_map.2 fun st _ => ?_⟩
    rw [stepOfByte_byte, Option.isSome_some]
  obtain ⟨-, -, hgood⟩ := blockFault_cases b
  refine ⟨?_, hgood (check_settingsImage g hpat) hsound, hsettings, hsteps ▸ patternOfBytes_bytes pat⟩
  exact (List.length_append).trans (congrArg (· + 2) (length_settingsBody g hpat))

end Sys2Proof.Proofs
end

section
/-! PROOFS. SAVE SETTINGS: the settings write it owes, and its wait in hand (R147, R150, R152). -/

namespace Sys2Proof.Proofs

open Sys2Proof Sys2Proof.Machine Sys2Proof.Laws

/-- The command in hand of a SAVE SETTINGS: nothing left to reckon, and the settings write awaited (R152). -/
def saveHand (tag : Byte) (p : List Byte) : Hand := { newHand .saveSettings tag p with reckoned := true, settings := true }

/-- The part with a SAVE SETTINGS in hand and its write owed, before the controller starts one. -/
def State.saveOwed (tag : Byte) (p : List Byte) (s : State) : State :=
  { s with store := { s.store with owed := true }, link := { s.link with receiver := .waiting, hand := some (saveHand tag p) } }

theorem exec_saveSettings {s : State} {tag : Byte} {p : List Byte} (h : s.ready .saveSettings tag p = true) :
    exec (.saveSettings tag p) s = .next (State.saveOwed tag p s).startNextWrite := exec_ready h

/-- Settles O43: the write that is owed goes first in IDLE, and a write in progress goes on. -/
theorem saveSettingsOwesTheSettingsWrite : Obligations.SaveSettingsOwesTheSettingsWrite := by
  intro s tag p h
  refine ⟨_, saveHand tag p, exec_saveSettings h, ?_⟩
  by_cases hm : s.store.mode = .idle
  · rw [startNextWrite_owed (s := State.saveOwed tag p s) hm rfl]
    exact ⟨rfl, rfl, rfl, rfl, rfl, rfl, rfl, rfl, rfl, fun _ => rfl, absurd hm⟩
  · rw [startNextWrite_rests (s := State.saveOwed tag p s) (.inl hm)]
    exact ⟨rfl, rfl, rfl, rfl, rfl, rfl, rfl, rfl, rfl, fun h => absurd h hm, fun _ => rfl⟩

end Sys2Proof.Proofs
end

section
/-! PROOFS. The frame receiver of the station link and the events on its line: the bytes of a frame before its check, the frames
that are rejected or of no known kind, replies sent and the NOTE pulse (R156 to R160, R162, R171, R175). -/

namespace Sys2Proof.Proofs

open Sys2Proof Sys2Proof.Machine Sys2Proof.Laws

/-! ### Answers to frames not taken, and rejections (R158, R159, R162) -/

/-- The reply list holds eight, and an answer to a frame that is not taken leaves the last place free (R162). -/
theorem answerHasRoom_iff (n : Nat) : n + 1 < replyCapacity ↔ n < 7 := Nat.succ_lt_succ_iff

/-- An answer that would take the last free place of the reply list is not made and counted instead (R162). -/
theorem answerUntaken_waiting (r : Reply) (s : State) :
    (State.waiting s).answerUntaken r = { s with link := { s.link.untaken r with receiver := .waiting } } := by
  by_cases h : s.link.replies.length < 7
  · rw [Link.untaken, if_pos h]
    exact if_pos ((answerHasRoom_iff _).2 h)
  · rw [Link.untaken, if_neg h]
    exact if_neg (mt (answerHasRoom_iff _).1 h)

theorem rejectFrame_eq (r : RejectReason) (s : State) : s.rejectFrame r = s.rejected r := by
  by_cases h : s.link.replies.length < 7
  · rw [State.rejected, if_pos h]
    exact if_pos ((answerHasRoom_iff _).2 h)
  · rw [State.rejected, if_neg h]
    exact if_neg (mt (answerHasRoom_iff _).1 h)

/-! ### The events on the line -/

theorem exec_linkFrameReject {s : State} {r : RejectReason} (hl : s.live = true)
    (hr : ¬ (r = .byteError ∧ s.link.receiver = .waiting)) : exec (.linkFrameReject r) s = .next (s.rejected r) := by
  have hcond : (s.live && !(r == .byteError && s.link.receiver == .waiting)) = true := by simpa [hl, imp_iff_not_or] using hr
  show execLinkFrameReject r s = _
  rw [execLinkFrameReject, if_pos hcond, rejectFrame_eq]

/-- A byte error while no frame is being received is discarded without count (R158). -/
theorem exec_byteError_waiting {s : State} (hw : s.link.receiver = .waiting) :
    exec (.linkFrameReject .byteError) s = .next s := by
  show execLinkFrameReject .byteError s = _
  simp [execLinkFrameReject, hw]

theorem exec_linkGapExpiry {s : State} (hc : s.clocked = true) (hw : s.link.receiver ≠ .waiting) :
    exec .linkGapExpiry s = .next (s.rejected .gap) := by
  have hcond : (s.clocked && s.link.receiver != .waiting) = true := by simpa [hc] using hw
  show execLinkGapExpiry s = _
  rw [execLinkGapExpiry, if_pos hcond, rejectFrame_eq]

theorem exec_unknownKindFrame {s : State} (hl : s.live = true) (kind tag : Byte) :
    exec (.unknownKindFrame kind tag) s = .next { s with link := { s.link.untaken
      (statusReply kind tag (if s.link.hand.isSome then .busy else .unknown) []) with receiver := .waiting } } := by
  show execUnknownKindFrame kind tag s = _
  rw [execUnknownKindFrame, State.receiveUnknown, if_pos hl, ← answerUntaken_waiting]
  rfl

/-- A reply that does not take the part to LOADING leaves the list as it has been sent, and the next one begins (R162). -/
theorem exec_replySent {s : State} {r : Reply} {rest : List Reply} (hl : s.live = true) (hr : s.link.replies = r :: rest)
    (hstays : ¬ (r.entersLoading = true ∧ s.link.op = .faulted)) (speed : Bool) :
    exec (.replySent speed) s = .next { s with link := { s.link with replies := rest } } := by
  have hcond : ¬ (r.entersLoading && s.link.op == .faulted) = true := by simpa using hstays
  show execReplySent speed s = _
  rw [execReplySent, if_pos hl, State.takeReplySent, hr]
  exact congrArg _ (if_neg hcond)

theorem exec_notePulseEnd {s : State} (h : s.clocked = true) :
    exec .notePulseEnd s = .next { s with link := { s.link with pulse := false } } := by
  show execNotePulseEnd s = _
  rw [execNotePulseEnd, if_pos h]
  rfl

/-! ### The transmit line (R156) -/

theorem sendingBytes_nil {s : State} (h : s.link.replies = []) : s.sendingBytes = [] := by
  rw [State.sendingBytes, h]
  rfl

theorem sendingBytes_cons {s : State} {r : Reply} {rest : List Reply} (h : s.link.replies = r :: rest) :
    s.sendingBytes = r.bytes := by
  rw [State.sendingBytes, h]
  rfl

/-- Settles O34, event by event, and by the bytes the transmit line sends. -/
theorem lineEventsLeaveTheCommandInHand : Obligations.LineEventsLeaveTheCommandInHand := by
  refine fun s => ⟨?_, fun _ hw => exec_byteError_waiting hw, fun kind tag hl => ?_,
    fun speed r rest hl hr hstays => exec_replySent hl hr hstays speed, fun h i => ?_, fun r rest h => ?_,
    fun h => ⟨_, exec_notePulseEnd h, rfl, Bool.and_true _⟩⟩
  · rintro r c (⟨rfl, hl, hr⟩ | ⟨rfl, rfl, hc, hw⟩)
    · exact exec_linkFrameReject hl hr
    · exact exec_linkGapExpiry hc hw
  · rw [exec_unknownKindFrame hl]
    cases s.link.hand <;> rfl
  · rw [State.linkLevel, sendingBytes_nil h, lineLevel_nil]
  · have hlevel : s.linkLevel = lineLevel r.bytes := by funext i; rw [State.linkLevel, sendingBytes_cons h]
    rw [hlevel]
    exact lineSends_lineLevel r.bytes

/-! ### The bytes of a frame (R157, R158) -/

/-- The part with the frame receiver in this state. -/
def State.receiving (r : Receiver) (s : State) : State := { s with link := { s.link with receiver := r } }

theorem exec_linkByteArrival {s : State} (h : s.live = true) (b : Byte) :
    exec (.linkByteArrival b) s = .next (s.takeLinkByte b) := by
  show execLinkByteArrival b s = _
  rw [execLinkByteArrival, if_pos h]

section
variable {s : State} {n : Nat} {got : List Byte}

theorem takeLinkByte_waiting (h : s.link.receiver = .waiting) (b : Byte) :
    s.takeLinkByte b = if b = 0xA7 then State.receiving .length s else s := by
  rw [State.takeLinkByte, h]
  rfl

theorem takeLinkByte_length (h : s.link.receiver = .length) (b : Byte) :
    s.takeLinkByte b = if b.toNat < 2 then s.rejected .length else State.receiving (.body b.toNat []) s := by
  rw [State.takeLinkByte, h, ← rejectFrame_eq]
  rfl

theorem takeLinkByte_body (h : s.link.receiver = .body n got) (b : Byte) :
    s.takeLinkByte b =
      State.receiving (if got.length + 1 < n then .body n (got ++ [b]) else .check n (got ++ [b]) none) s := by
  rw [State.takeLinkByte, h]
  dsimp only
  rw [List.length_append, List.length_singleton]
  split <;> rfl

theorem takeLinkByte_firstCheck (h : s.link.receiver = .check n got none) (b : Byte) :
    s.takeLinkByte b = State.receiving (.check n got (some b)) s := by
  rw [State.takeLinkByte, h]
  rfl

theorem takeLinkByte_lastCheck {high : Byte} (h : s.link.receiver = .check n got (some high)) (b : Byte) :
    s.takeLinkByte b = s.frameChecked n got [high, b] := by
  rw [State.takeLinkByte, h]

/-- A frame whose check does not agree is rejected for CHECK, whatever its bytes are (R159). -/
theorem frameChecked_bad {check : List Byte} (h : crcBytes (be1 n ++ got) ≠ check) :
    s.frameChecked n got check = s.rejected .check := by
  unfold State.frameChecked
  rw [if_neg h, rejectFrame_eq]

end

/-- Settles O35, by the receiver's states one after another. -/
theorem linkBytesMoveTheFrameReceiver : Obligations.LinkBytesMoveTheFrameReceiver := by
  intro s b hl
  rw [exec_linkByteArrival hl]
  refine ⟨fun h => ?_, fun h hb => ?_, fun h hb => ?_, fun n got h => ?_, fun n got h => ?_, fun n got high h hbad => ?_⟩
  · rw [takeLinkByte_waiting h]; rfl
  · rw [takeLinkByte_length h, if_neg (Nat.not_lt.2 hb)]; rfl
  · rw [takeLinkByte_length h, if_pos hb]
  · rw [takeLinkByte_body h]; rfl
  · rw [takeLinkByte_firstCheck h]; rfl
  · rw [takeLinkByte_lastCheck h, frameChecked_bad hbad]

end Sys2Proof.Proofs
end

section
/-! PROOFS. The bytes of a frame, one after another, are the command they spell (R157, R158, R160, R175, R176). -/

namespace Sys2Proof.Proofs

open Sys2Proof Sys2Proof.Machine Sys2Proof.Laws

theorem receiving_self {s : State} {r : Receiver} (h : s.link.receiver = r) : State.receiving r s = s := by
  rw [State.receiving, ← h]

/-- No two commands have one kind byte (R176). -/
theorem ofCode_code (k : CmdKind) : CmdKind.ofCode k.code = some k := by
  cases k <;> decide

/-- A frame is its start byte, its length, its body and the check over the length and the body (R157). -/
theorem linkFrame_eq (kind tag : Byte) (p : List Byte) : linkFrame kind tag p =
    0xA7 :: BitVec.ofNat 8 (p.length + 2) :: ((kind :: tag :: p) ++ crcBytes (be1 (p.length + 2) ++ kind :: tag :: p)) := rfl

/-- A frame whose check agrees and whose kind byte is a command's is received as that command. -/
theorem frameChecked_command {n : Nat} {k : CmdKind} {tag : Byte} {p check : List Byte}
    (h : crcBytes (be1 n ++ k.code :: tag :: p) = check) (s : State) :
    s.frameChecked n (k.code :: tag :: p) check = s.receiveFrame k tag p (ruleOf k) := by
  unfold State.frameChecked
  rw [if_pos h]
  dsimp only
  rw [ofCode_code]

/-- What the receiver was at is of no account to a frame that is complete (R158). -/
theorem receiveFrame_receiving {s : State} (h : s.live = true) (r : Receiver) (k : CmdKind) (tag : Byte) (p : List Byte)
    (rule : Byte → List Byte → State → State) :
    (State.receiving r s).receiveFrame k tag p rule = s.receiveFrame k tag p rule := by
  have h' : (State.receiving r s).live = true := h
  rw [State.receiveFrame, State.receiveFrame, if_pos h, if_pos h']
  rfl

section
variable {s : State} (h : s.live = true)
include h

theorem exec_received (r : Receiver) (b : Byte) :
    exec (.linkByteArrival b) (State.receiving r s) = .next ((State.receiving r s).takeLinkByte b) :=
  exec_linkByteArrival (s := State.receiving r s) h b

/-- The start byte and the length byte open a body of that length (R157). -/
theorem exec_opening {n : Nat} (hn : 2 ≤ n) (hn' : n ≤ 255) :
    execAll ([0xA7, BitVec.ofNat 8 n].map Instr.linkByteArrival) (State.receiving .waiting s) =
      .next (State.receiving (.body n []) s) := by
  have hbyte : (BitVec.ofNat 8 n).toNat = n := by
    rw [BitVec.toNat_ofNat]
    omega
  have hstart : exec (.linkByteArrival 0xA7) (State.receiving .waiting s) = .next (State.receiving .length s) := by
    rw [exec_received h, takeLinkByte_waiting rfl]
    rfl
  have hlength : exec (.linkByteArrival (BitVec.ofNat 8 n)) (State.receiving .length s) =
      .next (State.receiving (.body n []) s) := by
    rw [exec_received h, takeLinkByte_length rfl, hbyte, if_neg (Nat.not_lt.2 hn)]
    rfl
  rw [List.map_cons, execAll_cons hstart, List.map_cons, execAll_cons hlength]
  rfl

/-- The bytes of the body are taken one after another, none dropped, until there are as many as the length byte says. -/
theorem exec_body {n : Nat} (bs : List Byte) (b : Byte) (got : List Byte) (hlen : got.length + (bs.length + 1) = n) :
    execAll ((b :: bs).map Instr.linkByteArrival) (State.receiving (.body n got) s) =
      .next (State.receiving (.check n (got ++ b :: bs) none) s) := by
  induction bs generalizing b got with
  | nil =>
    have hlast : exec (.linkByteArrival b) (State.receiving (.body n got) s) =
        .next (State.receiving (.check n (got ++ [b]) none) s) := by
      rw [exec_received h, takeLinkByte_body rfl, if_neg (show ¬ got.length + 1 < n from Nat.not_lt.2 hlen.ge)]
      rfl
    rw [List.map_cons, execAll_cons hlast]
    rfl
  | cons c bs ih =>
    rw [List.length_cons] at hlen
    have hbyte : exec (.linkByteArrival b) (State.receiving (.body n got) s) =
        .next (State.receiving (.body n (got ++ [b])) s) := by
      rw [exec_received h, takeLinkByte_body rfl, if_pos (by omega)]
      rfl
    have hrest : (got ++ [b]).length + (bs.length + 1) = n := by
      rw [List.length_append, List.length_singleton]
      omega
    rw [List.map_cons, execAll_cons hbyte, ih c _ hrest, List.append_assoc, List.singleton_append]

/-- The two bytes of a check that agrees complete a command's frame. -/
theorem exec_check {n : Nat} {k : CmdKind} {tag : Byte} {p : List Byte} :
    execAll ((crcBytes (be1 n ++ k.code :: tag :: p)).map Instr.linkByteArrival)
      (State.receiving (.check n (k.code :: tag :: p) none) s) = .next (s.receiveFrame k tag p (ruleOf k)) := by
  obtain ⟨high, low, hcheck⟩ : ∃ high low, crcBytes (be1 n ++ k.code :: tag :: p) = [high, low] := ⟨_, _, rfl⟩
  have hhigh : exec (.linkByteArrival high) (State.receiving (.check n (k.code :: tag :: p) none) s) =
      .next (State.receiving (.check n (k.code :: tag :: p) (some high)) s) := by
    rw [exec_received h, takeLinkByte_firstCheck rfl]
    rfl
  have hlow : exec (.linkByteArrival low) (State.receiving (.check n (k.code :: tag :: p) (some high)) s) =
      .next (s.receiveFrame k tag p (ruleOf k)) := by
    rw [exec_received h, takeLinkByte_lastCheck rfl, frameChecked_command hcheck, receiveFrame_receiving h]
  rw [hcheck, List.map_cons, execAll_cons hhigh, List.map_cons, execAll_cons hlow]
  rfl

end

/-- Settles O36: the bytes open the frame, fill its body and complete its check, and the frame is the command. -/
theorem frameBytesAreTheCommand : Obligations.FrameBytesAreTheCommand := by
  intro k tag p s hl hw hp
  have hopening := exec_opening hl (n := p.length + 2) (by omega) (by omega)
  rw [receiving_self hw] at hopening
  have hbody := exec_body hl (n := p.length + 2) (tag :: p) k.code [] (Nat.zero_add _)
  rw [List.nil_append] at hbody
  have hsplit : linkFrame k.code tag p = [0xA7, BitVec.ofNat 8 (p.length + 2)] ++
      ((k.code :: tag :: p) ++ crcBytes (be1 (p.length + 2) ++ k.code :: tag :: p)) := linkFrame_eq ..
  rw [hsplit, List.map_append, execAll_append hopening, List.map_append, execAll_append hbody, exec_check hl,
    exec_commandOf]

end Sys2Proof.Proofs
end

section
/-! PROOFS. Frames that are not taken (R160 to R162). -/

namespace Sys2Proof.Proofs

open Sys2Proof Sys2Proof.Machine Sys2Proof.Laws

/-! ### The repeat of the last command taken (R161) -/

theorem repeatOf_some {s : State} {k : CmdKind} {tag : Byte} {p : List Byte} {c : Copy} (hc : s.link.copy = some c)
    (hsame : c.kind = k ∧ c.tag = tag ∧ c.payload = p) : s.repeatOf k tag p = some c.reply := by
  rw [State.repeatOf, hc]
  exact if_pos hsame

theorem repeatOf_none {s : State} {k : CmdKind} {tag : Byte} {p : List Byte}
    (h : ∀ c, ¬ (s.link.copy = some c ∧ c.kind = k ∧ c.tag = tag ∧ c.payload = p)) : s.repeatOf k tag p = none := by
  cases hc : s.link.copy with
  | none => rw [State.repeatOf, hc]
  | some c =>
    rw [State.repeatOf, hc]
    exact if_neg fun hsame => h c ⟨hc, hsame⟩

/-! ### The tests after BUSY (R160, R162) -/

section
variable {s : State} {k : CmdKind} {tag : Byte} {p : List Byte} (hl : s.live = true) (hh : s.link.hand = none)
include hl hh

theorem receiveFrame_repeat {r : Reply} (hr : s.repeatOf k tag p = some r) (rule : Byte → List Byte → State → State) :
    s.receiveFrame k tag p rule = (State.waiting s).answerUntaken r := by
  have hr' : (s.onLink fun l => { l with receiver := .waiting }).repeatOf k tag p = some r := hr
  simp only [State.receiveFrame, hl, if_true, onLink_link, hh, Option.isSome_none, Bool.false_eq_true, if_false, hr']
  rfl

variable (hr : s.repeatOf k tag p = none)
include hr

theorem receiveFrame_badLength (hp : p.length ≠ requiredLength k p) (rule : Byte → List Byte → State → State) :
    s.receiveFrame k tag p rule =
      (State.waiting s).answerUntaken (statusReply k.code tag .badLength (be1 (requiredLength k p))) := by
  have hr' : (s.onLink fun l => { l with receiver := .waiting }).repeatOf k tag p = none := hr
  simp only [State.receiveFrame, hl, if_true, onLink_link, hh, Option.isSome_none, Bool.false_eq_true, if_false, hr',
    bne_iff_ne, ne_eq, hp, not_false_eq_true]
  rfl

/-- With eight replies waiting a frame that would be taken is discarded and counted (R162). -/
theorem receiveFrame_full (hp : p.length = requiredLength k p) (hfull : 8 ≤ s.link.replies.length)
    (rule : Byte → List Byte → State → State) :
    s.receiveFrame k tag p rule = (State.waiting s).raise .linkRejects := by
  have hr' : (s.onLink fun l => { l with receiver := .waiting }).repeatOf k tag p = none := hr
  have hfull' : replyCapacity ≤ s.link.replies.length := hfull
  simp only [State.receiveFrame, hl, if_true, onLink_link, hh, Option.isSome_none, Bool.false_eq_true, if_false, hr',
    ← hp, bne_self_eq_false, hfull']
  rfl

end

/-- Settles O37, test by test in their order. -/
theorem framesNotTakenChangeOnlyTheLink : Obligations.FramesNotTakenChangeOnlyTheLink := by
  intro k tag p s hl
  rw [exec_commandOf]
  refine ⟨fun hh => ?_, fun c hh ⟨hc, hsame⟩ => ?_, fun hh hr hp => ?_, fun hh hr hp hfull => ?_⟩
  · rw [receiveFrame_busy hl hh, answerUntaken_waiting]
    rfl
  · rw [receiveFrame_repeat hl hh (repeatOf_some hc hsame), answerUntaken_waiting]
  · rw [receiveFrame_badLength hl hh (repeatOf_none hr) hp, answerUntaken_waiting]
    rfl
  · rw [receiveFrame_full hl hh (repeatOf_none hr) hp hfull]
    rfl

end Sys2Proof.Proofs
end

section
/-! PROOFS. The reports that any operating state admits: IDENTIFY, FETCH NOTICES and COUNTERS (R164, R168, R169, R171, R173,
R177, R182). -/

namespace Sys2Proof.Proofs

open Sys2Proof Sys2Proof.Machine Sys2Proof.Laws

/-! ### IDENTIFY (R164) -/

/-- Settles O39: the design level is a constant of the part, in the range its type gives it. -/
theorem identifyReportsThePart : Obligations.IdentifyReportsThePart := by
  refine ⟨1 + Config.designLevelIndex.val, Nat.le_add_right 1 _, ?_, fun s tag p h => ?_⟩
  · have := Config.designLevelIndex.isLt
    omega
  · have hline : s.pins.fastLine.toNat = if s.pins.fastLine then 1 else 0 := by cases s.pins.fastLine <;> rfl
    refine exec_answered h nofun ?_
    rw [← hline]
    rfl

/-! ### FETCH NOTICES (R168, R169, R171, R182) -/

theorem length_noticeBytes (n : Notice) : n.bytes.length = 12 := by
  obtain ⟨kind, dh, cycle, kit⟩ := n
  cases kind <;> rfl

/-- The number left is that of the notices after the oldest eight. -/
theorem fetched_eq (l : Link) : l.fetched = be1 l.lost ++ be1 (l.notices.drop 8).length ++ be1 (l.notices.take 8).length ++
    ((l.notices.take 8).map Notice.bytes).flatten := by
  have hleft : l.notices.length - (l.notices.take 8).length = (l.notices.drop 8).length := by
    rw [List.length_take, List.length_drop]
    omega
  rw [← hleft]
  rfl

/-- A command other than ENROL BLOCK that is answered at once leaves the part answered. -/
theorem answerNow_answered {k : CmdKind} (hk : k ≠ .enrolBlock) (tag : Byte) (p : List Byte) (st : Status)
    (content : List Byte) (s : State) : (State.waiting s).answerNow k tag p st content = s.answered k tag p st content := by
  rw [answerNow_waiting, enrolledTail, if_neg hk, List.append_nil]

/-- The part after a FETCH NOTICES: its reply joined the list, and the notices it returns left the queue. -/
def State.noticesFetched (tag : Byte) (p : List Byte) (s : State) : State :=
  (s.answered .fetchNotices tag p .ok s.link.fetched).onLink (Link.afterFetch s.settings.notePulse)

theorem exec_fetchNotices {s : State} {tag : Byte} {p : List Byte} (h : s.ready .fetchNotices tag p = true) :
    exec (.fetchNotices tag p) s = .next (State.noticesFetched tag p s) := by
  rw [State.noticesFetched, ← answerNow_answered (by decide)]
  exact exec_ready h

/-- NOTE after a fetch: asserted if notices are left and no pulse runs or begins. -/
theorem note_noticesFetched (tag : Byte) (p : List Byte) (s : State) : (State.noticesFetched tag p s).note =
    (!(s.link.notices.drop 8).isEmpty &&
      !(s.link.pulse || (s.settings.notePulse && !(s.link.notices.drop 8).isEmpty))) := rfl

/-! ### COUNTERS (R173) -/

theorem exec_counters {s : State} {tag : Byte} {p : List Byte} (h : s.ready .counters tag p = true) :
    exec (.counters tag p) s = .next ((s.answered .counters tag p .ok s.link.counters.report).onLink fun l =>
      { l with counters := if flagAt p 0 then .zero else l.counters }) := by
  rw [← answerNow_answered (by decide)]
  exact exec_ready h

/-- A flag is set when its byte is not 0 (R177). -/
theorem if_flagAt {α : Type} (p : List Byte) (off : Nat) (a b : α) :
    (if flagAt p off then a else b) = if field p off 1 = 0 then b else a := by
  by_cases h : field p off 1 = 0 <;> simp [flagAt, h]

/-- Settles O41: what the two replies carry, and what each leaves of the queue, NOTE and the counters. -/
theorem fetchNoticesAndCountersReportAndClear : Obligations.FetchNoticesAndCountersReportAndClear := by
  refine ⟨fun s tag p h => ⟨_, exec_fetchNotices h, ?_, fun hmode => ?_, fun hpulse hmode => ?_,
    fun n _ => length_noticeBytes n⟩, fun s tag p h => ?_⟩
  · rw [State.noticesFetched, fetched_eq]
    rfl
  · rw [note_noticesFetched, hmode]
    cases (s.link.notices.drop 8).isEmpty <;> simp
  · rw [note_noticesFetched, hpulse, hmode]
    exact Bool.and_true _
  · rw [exec_counters h, ← if_flagAt]
    rfl

end Sys2Proof.Proofs
end

section
/-! PROOFS. Every command and event answers a next state, and none touches the queue of those that wait (R174). -/

namespace Sys2Proof.Proofs

open Sys2Proof Sys2Proof.Machine Sys2Proof.Laws

/-! ### The shared operations -/

@[simp] theorem closeDone_pending (s : State) : s.closeDone.pending = s.pending := (kept_closeDone s).pending

@[simp] theorem finishFrame_pending (s : State) : s.finishFrame.pending = s.pending := (kept_finishFrame s).pending

@[simp] theorem finishIndex_pending (w : Walk) (changed : Bool) (s : State) :
    (s.finishIndex w changed).pending = s.pending := (kept_finishIndex s w changed).pending

@[simp] theorem settleHand_pending (s : State) : s.settleHand.pending = s.pending := (kept_settleHand s).pending

@[simp] theorem startNextWrite_pending (s : State) : s.startNextWrite.pending = s.pending := (kept_startNextWrite s).pending

@[simp] theorem tryAccept_pending (r : Requester) (s : State) : (s.tryAccept r).pending = s.pending :=
  (kept_tryAccept s r).pending

@[simp] theorem cutWrite_pending (tear : BitVec 64) (s : State) : (s.cutWrite tear).pending = s.pending :=
  (cutWrite_rest tear s).2

@[simp] theorem beginPreparation_pending (s : State) : s.beginPreparation.pending = s.pending := by
  rcases beginPreparation_cases s with ⟨-, -, h⟩ | ⟨-, h⟩ <;> rw [h]
  rfl

@[simp] theorem abortWalk_pending (s : State) : s.abortWalk.pending = s.pending := by
  unfold State.abortWalk
  split
  · rfl
  · split <;> rfl

@[simp] theorem closeSubWindow_pending (s : State) : s.closeSubWindow.pending = s.pending := by
  rcases closeSubWindow_cases s with h | h <;> rw [h]
  rfl

@[simp] theorem completeFrame_pending (bs : List Byte) (s : State) : (s.completeFrame bs).pending = s.pending := by
  unfold State.completeFrame
  split
  · split <;> rfl
  · rfl

@[simp] theorem builderAtSlotStart_pending (s : State) : s.builderAtSlotStart.pending = s.pending :=
  (airActs_builderAtSlotStart s).kept.pending

/-! ### Frames of the station link -/

@[simp] theorem answerUntaken_pending (r : Reply) (s : State) : (s.answerUntaken r).pending = s.pending := by
  unfold State.answerUntaken
  split <;> rfl

@[simp] theorem requestRule_pending (k : CmdKind) (tag : Byte) (p : List Byte) (s : State) :
    (s.requestRule k tag p).pending = s.pending := by
  unfold State.requestRule
  split <;> simp

@[simp] theorem ruleOf_pending (k : CmdKind) (tag : Byte) (p : List Byte) (s : State) :
    (ruleOf k tag p s).pending = s.pending := by
  cases k with
  | identify | status | fetchNotices | counters => rfl
  | configure =>
    show (configureRule tag p s).pending = _
    unfold configureRule
    split <;> rfl
  | loadPattern =>
    show (loadPatternRule tag p s).pending = _
    unfold loadPatternRule
    split <;> rfl
  | saveSettings => exact startNextWrite_pending _
  | setClock =>
    show (setClockRule tag p s).pending = _
    unfold setClockRule
    split
    · rfl
    · split <;> rfl
  | start =>
    show (startRule tag p s).pending = _
    unfold startRule
    split
    · rfl
    · split
      · rfl
      · exact beginPreparation_pending _
  | stop =>
    show (stopRule tag p s).pending = _
    unfold stopRule
    split <;> rfl
  | reset =>
    show (resetRule tag p s).pending = _
    unfold resetRule
    split
    · rfl
    · exact abortWalk_pending _
  | enrolBlock =>
    show (enrolBlockRule tag p s).pending = _
    unfold enrolBlockRule
    split
    · rfl
    · exact requestRule_pending ..
  | readKit =>
    show (readKitRule tag p s).pending = _
    unfold readKitRule
    dsimp only
    split <;> rfl
  | grace =>
    show (graceRule tag p s).pending = _
    unfold graceRule
    split
    · rfl
    · split <;> rfl
  | graceAbort =>
    show (graceAbortRule tag p s).pending = _
    unfold graceAbortRule
    split
    · rfl
    · exact abortWalk_pending _
  | enrol | retire | restore | grant | setHorizon | withdraw | resume | move => exact requestRule_pending ..

@[simp] theorem receiveFrame_pending (k : CmdKind) (tag : Byte) (p : List Byte) (s : State) :
    (s.receiveFrame k tag p (ruleOf k)).pending = s.pending := by
  obtain ⟨-, h⟩ | ⟨-, ⟨r, h⟩ | h | ⟨-, st, c, h⟩ | ⟨-, h⟩⟩ := receiveFrame_cases k tag p (ruleOf k) s <;> simp [h]

@[simp] theorem receiveUnknown_pending (kind tag : Byte) (s : State) : (s.receiveUnknown kind tag).pending = s.pending := by
  unfold State.receiveUnknown
  split <;> simp

@[simp] theorem rejectFrame_pending (r : RejectReason) (s : State) : (s.rejectFrame r).pending = s.pending := by
  rw [rejectFrame_eq]
  rfl

@[simp] theorem frameChecked_pending (n : Nat) (body check : List Byte) (s : State) :
    (s.frameChecked n body check).pending = s.pending := by
  unfold State.frameChecked
  split
  · split
    · split <;> simp
    · simp
  · simp

@[simp] theorem takeLinkByte_pending (b : Byte) (s : State) : (s.takeLinkByte b).pending = s.pending := by
  unfold State.takeLinkByte
  dsimp only
  split
  · split <;> rfl
  · split <;> simp
  · split <;> rfl
  · rfl
  · simp

@[simp] theorem takeReplySent_pending (speed : Bool) (s : State) : (s.takeReplySent speed).pending = s.pending := by
  unfold State.takeReplySent
  split
  · rfl
  · split <;> rfl

/-! ### Time, the uplink, receipts and the walk -/

@[simp] theorem takeSlotStart_pending (s : State) : s.takeSlotStart.pending = s.pending :=
  builderAtSlotStart_pending (State.slotOpened s)

@[simp] theorem takeDownlinkWindowEnd_pending (s : State) : s.takeDownlinkWindowEnd.pending = s.pending := by
  unfold State.takeDownlinkWindowEnd
  dsimp only
  split <;> simp

@[simp] theorem takeReplyWindowEnd_pending (s : State) : s.takeReplyWindowEnd.pending = s.pending :=
  (closeDone_pending (State.windowOver s)).trans (closeSubWindow_pending s)

@[simp] theorem takePreparationComplete_pending (s : State) : s.takePreparationComplete.pending = s.pending := by
  unfold State.takePreparationComplete
  split <;> rfl

@[simp] theorem takeUplinkByte_pending (b : Byte) (s : State) : (s.takeUplinkByte b).pending = s.pending := by
  unfold State.takeUplinkByte
  split
  · split <;> rfl
  · split
    · rfl
    · split <;> rfl
  · split
    · rfl
    · exact completeFrame_pending _ s
  · rfl

@[simp] theorem takeUplinkError_pending (s : State) : s.takeUplinkError.pending = s.pending := by
  unfold State.takeUplinkError
  split <;> rfl

@[simp] theorem handleFrame_pending (f : Frame) (s : State) : (s.handleFrame f).pending = s.pending := by
  obtain ⟨u, hu, h | ⟨-, q, rest, h⟩⟩ := handleFrame_cases f s <;> rw [h, ← hu.kept.pending]
  · exact finishFrame_pending u
  · rfl

@[simp] theorem examineNext_pending (s : State) : s.examineNext.pending = s.pending := by
  unfold State.examineNext
  split
  · split
    · rfl
    · split
      · rfl
      · exact finishIndex_pending ..
  · rfl

/-! ### The record store -/

@[simp] theorem storeFault_pending (t : StoreTarget) (e : Bool) (s : State) : (s.storeFault t e).pending = s.pending := by
  have hwalk (u : State) : (State.walkAborted u).pending = u.pending := by
    unfold State.walkAborted
    split <;> rfl
  have hhandler (u : State) : u.withdrawHandler.pending = u.pending := by
    rcases withdrawHandler_cases u with ⟨-, h⟩ | ⟨-, h⟩ <;> rw [h]
    exact finishFrame_pending u
  have hhand (u : State) : (State.handRefused u).pending = u.pending := by
    unfold State.handRefused
    split <;> rfl
  rw [storeFault_eq, hhand, hhandler, hwalk]
  rfl

@[simp] theorem attemptFailed_pending (e : Bool) (s : State) : (s.attemptFailed e).pending = s.pending := by
  obtain ⟨k, image, n, -, ⟨-, h⟩ | ⟨-, h⟩⟩ | ⟨image, n, -, ⟨-, h⟩ | ⟨-, h⟩⟩ | h := attemptFailed_cases e s <;> simp [h]

@[simp] theorem recordVerified_pending (k : Nat) (s : State) : (s.recordVerified k).pending = s.pending := by
  rw [recordVerified_eq, startNextWrite_pending, settleHand_pending]
  rfl

@[simp] theorem settingsVerified_pending (s : State) : s.settingsVerified.pending = s.pending := by
  rw [settingsVerified_eq, startNextWrite_pending, settleHand_pending]
  rfl

@[simp] theorem attemptReadBack_pending (bs : List Byte) (s : State) : (s.attemptReadBack bs).pending = s.pending := by
  unfold State.attemptReadBack
  split
  · unfold State.recordReadBack
    dsimp only
    split <;> simp
  · unfold State.settingsReadBack
    dsimp only
    split <;> simp
  · rfl

@[simp] theorem attemptInError_pending (left : List Byte) (s : State) : (s.attemptInError left).pending = s.pending := by
  unfold State.attemptInError
  split <;> simp

@[simp] theorem loadSettings_pending (read : Option (List Byte)) (s : State) : (s.loadSettings read).pending = s.pending := by
  unfold State.loadSettings
  split
  · rfl
  · split <;> rfl

@[simp] theorem loadKit_pending (k : Nat) (read : Option (List Byte)) (s : State) :
    (s.loadKit k read).pending = s.pending := by
  have hread : (State.kitRead k read s).pending = s.pending := by
    unfold State.kitRead
    split <;> rfl
  rw [loadKit_eq]
  split <;> exact hread

@[simp] theorem memoryTimeout_pending (left : List Byte) (s : State) : (s.memoryTimeout left).pending = s.pending := by
  unfold State.memoryTimeout
  split <;> simp

/-! ### Every command and event -/

/-- An event that takes effect under a condition leaves the queue alone if its effect does. -/
theorem pending_if {s t : State} (c : Bool) (h : t.pending = s.pending) : (if c then t else s).pending = s.pending := by
  cases c
  · rfl
  · exact h

/-- Settles O2: what each command and event does is made of acts that leave the queue alone. -/
theorem everyCommandGoesOnAndKeepsTheQueue : Obligations.EveryCommandGoesOnAndKeepsTheQueue := by
  intro c s
  cases c using Instr.byFrame with
  | command k tag p => exact ⟨_, exec_commandOf k tag p s, receiveFrame_pending k tag p s⟩
  | powerUp speed | referenceClockStops | referenceClockReturns => exact ⟨_, rfl, rfl⟩
  | resetPinAsserted tear | powerLoss tear => exact ⟨_, rfl, cutWrite_pending tear s⟩
  | resetPinDeasserted speed =>
    refine ⟨_, rfl, pending_if _ ?_⟩
    split <;> rfl
  | slotStart => exact ⟨_, rfl, pending_if _ (takeSlotStart_pending s)⟩
  | downlinkWindowEnd => exact ⟨_, rfl, pending_if _ (takeDownlinkWindowEnd_pending s)⟩
  | replySubWindowStart k => exact ⟨_, rfl, pending_if _ (closeSubWindow_pending s)⟩
  | replyWindowEnd => exact ⟨_, rfl, pending_if _ (takeReplyWindowEnd_pending s)⟩
  | preparationComplete => exact ⟨_, rfl, pending_if _ (takePreparationComplete_pending s)⟩
  | uplinkFrameComplete b =>
    refine ⟨_, rfl, ?_⟩
    split
    · exact pending_if _ (completeFrame_pending _ s)
    · rfl
  | uplinkByteError => exact ⟨_, rfl, pending_if _ (takeUplinkError_pending s)⟩
  | uplinkByteArrival b => exact ⟨_, rfl, pending_if _ (takeUplinkByte_pending b s)⟩
  | receiptHandle =>
    refine ⟨_, rfl, ?_⟩
    split
    · exact pending_if _ (handleFrame_pending _ s)
    · rfl
  | moveCompletion | withdrawalOnTamper =>
    refine ⟨_, rfl, ?_⟩
    split
    · exact pending_if _ (tryAccept_pending _ s)
    · rfl
  | graceExamine => exact ⟨_, rfl, pending_if _ (examineNext_pending s)⟩
  | graceReckoning | commandReckoning => exact ⟨_, rfl, pending_if _ (tryAccept_pending _ s)⟩
  | storeAttemptComplete e =>
    refine ⟨_, rfl, pending_if _ ?_⟩
    cases e with
    | good => exact attemptReadBack_pending _ s
    | readBack bs => exact attemptReadBack_pending bs s
    | inError left => exact attemptInError_pending left s
  | storeMemoryTimeout left => exact ⟨_, rfl, pending_if _ (memoryTimeout_pending left s)⟩
  | settingsBlockRead r =>
    refine ⟨_, rfl, ?_⟩
    split
    · exact pending_if _ (loadSettings_pending _ s)
    · rfl
  | kitRecordRead r =>
    refine ⟨_, rfl, ?_⟩
    split
    · exact pending_if _ (loadKit_pending _ _ s)
    · rfl
  | closingDrainComplete speed => exact ⟨_, rfl, pending_if _ rfl⟩
  | replySent speed => exact ⟨_, rfl, pending_if _ (takeReplySent_pending speed s)⟩
  | hourTick | burstComplete | notePulseEnd => exact ⟨_, rfl, pending_if _ rfl⟩
  | linkFrameReject r => exact ⟨_, rfl, pending_if _ (rejectFrame_pending r s)⟩
  | linkGapExpiry => exact ⟨_, rfl, pending_if _ (rejectFrame_pending .gap s)⟩
  | unknownKindFrame kind tag => exact ⟨_, rfl, receiveUnknown_pending kind tag s⟩
  | linkByteArrival b => exact ⟨_, rfl, pending_if _ (takeLinkByte_pending b s)⟩

end Sys2Proof.Proofs
end

section
/-! PROOFS. What a step takes from the queue: one equation of `step` for a queue with a command waiting and one for the
empty queue. -/

namespace Sys2Proof.Proofs

open Sys2Proof Sys2Proof.Machine

theorem step_of_waiting {s : State} {c : Instr} {rest : List Instr} (h : s.pending = c :: rest) :
    step s = exec c { s with pending := rest } := by
  rw [step, h]

/-- The model's choice (assumption 10). -/
theorem step_of_empty {s : State} (h : s.pending = []) : step s = .next s := by
  rw [step, h]

/-- Settles O1, by the two forms the queue can have. -/
theorem stepCarriesOutTheFront : Obligations.StepCarriesOutTheFront :=
  ⟨fun _ _ _ => step_of_waiting, fun _ => step_of_empty⟩

end Sys2Proof.Proofs
end
